-- ==== Sys2Proof/Word.lean ====
section
/-! DEFINITION. The words of the block, at the widths the spec gives them (00_scope.md R6, 30_encoding.md R40, R46).
All values are unsigned; bit 0 is the least significant bit (00_scope.md section 4). -/

namespace Sys2Proof

/-- One 40-bit command word `CMD[39:0]`, presented whole on the command port (R40). -/
abbrev CmdWord := BitVec 40

/-- One 16-bit response word `RSP[15:0]` (R46). -/
abbrev RspWord := BitVec 16

/-- One byte: a register of a chip, or a byte of a bus transaction (R20, R25). -/
abbrev Byte := BitVec 8

/-- A 7-bit bus address (`ADDR_WIDTH`, R6, R10). -/
abbrev BusAddr := BitVec 7

/-- A channel id; exactly 32 inhabitants (40_register_map.md R57). -/
abbrev Channel := BitVec 5

/-- A pulse width in microseconds (`US_WIDTH`, R6, R42). -/
abbrev Micros := BitVec 32

/-- A timer-tick count, 0 to 4095 (`TICK_WIDTH`, R6, R16). -/
abbrev Ticks := BitVec 12

end Sys2Proof
end

