-- ==== Sys2Proof/Syntax.lean ====
section
/-! DEFINITION. The commands of the block (30_encoding.md R41), the fields of the one command format (R40), and the
names under which a decoder rejects a word (R44). -/

namespace Sys2Proof

/-- The six commands, in the order of R41, with the operands each uses (R41, R42). An operand out of range cannot be
written: "prevented structurally" (60_exceptions.md R99). -/
inductive Instr where
  /-- `LOOKUP ch` (40_register_map.md R56) -/
  | lookup (ch : Channel)
  /-- `CONV us` (41_timing_converter.md R59) -/
  | conv (us : Micros)
  /-- `INIT` (42_initialize.md R67) -/
  | init
  /-- `ENABLE` (43_gating.md R79) -/
  | enable
  /-- `DISABLE` (43_gating.md R80) -/
  | disable
  /-- `SETPULSE ch, us` (44_set_pulse.md R87) -/
  | setpulse (ch : Channel) (us : Micros)
  deriving DecidableEq, Repr

/-- The three fields of format `C` (R40). -/
structure Fields where
  op : BitVec 3
  ch : BitVec 5
  us : BitVec 32
  deriving DecidableEq, Repr

/-- Why a word is a reserved encoding (R43, R44). -/
inductive Reserved where
  /-- `OP` = 0 or `OP` = 7 (R41, R44). -/
  | opcode
  /-- A defined `OP` that does not use `CH`, with `CH` not zero (R43). -/
  | channelField
  /-- A defined `OP` that does not use `US`, with `US` not zero (R43). -/
  | microsField
  deriving DecidableEq, Repr

/-- What a decoder reads from a word: a command, or the spec's `invalid` with its reason (R44). -/
inductive Decoded where
  | ok (i : Instr)
  | invalid (r : Reserved)
  deriving DecidableEq, Repr

end Sys2Proof
end

