-- ==== Sys2Proof/Decode.lean ====
section
/-! DEFINITION. Decoding and encoding of command words (30_encoding.md R40 to R45). The decoder is total: a word is a
command or is rejected by name. -/

namespace Sys2Proof

/-- The fields of a command word: `OP` = bits 39:37, `CH` = bits 36:32, `US` = bits 31:0 (R40). -/
def splitFields (w : CmdWord) : Fields :=
  { op := w.extractLsb' 37 3, ch := w.extractLsb' 32 5, us := w.extractLsb' 0 32 }

/-- `{OP, CH, US}` (R40). -/
def joinFields (f : Fields) : CmdWord := f.op ++ f.ch ++ f.us

/-- A command that uses no `CH` (R43): rejected when `CH` is not zero. -/
def withoutCh (f : Fields) (r : Decoded) : Decoded :=
  if f.ch = 0 then r else .invalid .channelField

/-- A command that uses no `US` (R43): rejected when `US` is not zero. -/
def withoutUs (f : Fields) (r : Decoded) : Decoded :=
  if f.us = 0 then r else .invalid .microsField

/-- The command a triple of fields stands for (R41, R43), or why there is none (R44). -/
def decodeFields (f : Fields) : Decoded :=
  if f.op = 1 then withoutUs f (.ok (.lookup f.ch))
  else if f.op = 2 then withoutCh f (.ok (.conv f.us))
  else if f.op = 3 then withoutCh f (withoutUs f (.ok .init))
  else if f.op = 4 then withoutCh f (withoutUs f (.ok .enable))
  else if f.op = 5 then withoutCh f (withoutUs f (.ok .disable))
  else if f.op = 6 then .ok (.setpulse f.ch f.us)
  else .invalid .opcode

/-- The command of a word; `.invalid` is the spec's own word (R44). -/
def decode (w : CmdWord) : Decoded := decodeFields (splitFields w)

/-- The fields of a command, the unused ones zero (R41, R43). -/
def instrFields (i : Instr) : Fields :=
  match i with
  | .lookup ch => { op := 1, ch := ch, us := 0 }
  | .conv us => { op := 2, ch := 0, us := us }
  | .init => { op := 3, ch := 0, us := 0 }
  | .enable => { op := 4, ch := 0, us := 0 }
  | .disable => { op := 5, ch := 0, us := 0 }
  | .setpulse ch us => { op := 6, ch := ch, us := us }

/-- The one word of a command (R43, R45). -/
def encode (i : Instr) : CmdWord := joinFields (instrFields i)

/-- The command word whose bits are those of `w`, numbered as the opcode table numbers them: the word is presented
whole (R40), so bit `k` of `w` is bit `k` of `CMD`. Bits from `nbits` on are zero (Log 20). -/
def tableWord (nbits w : Nat) : CmdWord := BitVec.ofNat 40 (w % 2 ^ nbits)

/-- The command this decoder reads from the bits of a row of the opcode table. A number with a bit above bit 39 is no
command word: every command is exactly 40 bits (R45). -/
def decodeTableWord (nbits w : Nat) : Option Instr :=
  if w % 2 ^ nbits < 2 ^ 40 then
    match decode (tableWord nbits w) with
    | .ok i => some i
    | .invalid _ => none
  else none

end Sys2Proof
end

