-- ==== Sys2Proof/Config.lean ====
section
/-! DEFINITION. What an implementation fixes: the open parameters of 00_scope.md R8, which "the model takes as
arguments", and the presets and least wait the spec names (R6, R7). The constants of R6 that a meaning computes
with stand in Machine/Constants.lean. -/

namespace Sys2Proof

/-- `T_STAB_MIN`: "Wait >= 100 ms" after wake, in microseconds (R6, 42_initialize.md R73). -/
def Config.tStabMin : Nat := 100000

/-- The bus addresses of the preset "no jumpers set" (R7). -/
def Config.noJumpers : BusAddr × BusAddr := (0x40, 0x60)

/-- The bus addresses of the preset "all jumpers set" (R7). -/
def Config.allJumpers : BusAddr × BusAddr := (0x5F, 0x7F)

/-- The open parameters of R8. They are arguments of the reset (Log 2, Log 3): a State carries them, no step writes
them, and a statement about every state holds for every value of them. -/
structure OpenParams where
  /-- `MODE_SLEEP_ALLCALL`, the byte that means sleep-enabled and all-call-response-enabled (R8, R51, D15). -/
  modeSleepAllcall : Byte
  /-- `MODE_AI_ALLCALL`, the byte that means auto-increment-enabled and all-call-response-enabled (R8, R51, D15). -/
  modeAiAllcall : Byte
  /-- How many microseconds the actual wait `T_STAB` is longer than `T_STAB_MIN` (R8, D20). -/
  tStabExtra : Nat
  deriving DecidableEq, Repr

/-- `T_STAB` in microseconds; never below `T_STAB_MIN` (R8, R73). -/
def OpenParams.tStab (p : OpenParams) : Nat := Config.tStabMin + p.tStabExtra

/-- A mode byte that names the two fields at bits `i` and `j`: those are 1, and "fields not named in a write are written
as 0" (R51). -/
def modeByte (i j : Fin 8) : Byte := 1#8 <<< i.val ||| 1#8 <<< j.val

/-- What R8 and R51 ask of the two mode bytes, whose bit positions no source gives (N3): there are three different bits
for sleep, all-call response and auto-increment such that the first byte sets sleep and all-call response and nothing
else, and the second auto-increment and all-call response and nothing else. (One bit a field: DEDUCED, Log 2.) -/
abbrev OpenParams.Legal (p : OpenParams) : Prop :=
  ∃ sleep allCall autoInc : Fin 8, sleep ≠ allCall ∧ sleep ≠ autoInc ∧ allCall ≠ autoInc ∧
    p.modeSleepAllcall = modeByte sleep allCall ∧ p.modeAiAllcall = modeByte autoInc allCall

/-- The values "a model should take unless it has better evidence" (R51): 0x11 and 0x21, from the PCA9685's mode
register (PRESUMED, Log 2), with the least wait the spec allows (DESIGN CHOICE, Log 3). -/
def OpenParams.suggested : OpenParams :=
  { modeSleepAllcall := 0x11, modeAiAllcall := 0x21, tStabExtra := 0 }

end Sys2Proof
end

