-- ==== Sys2Proof/Machine/State.lean ====
section
/-! DEFINITION. The state of the block, the events it puts out, and its reset (10_state.md, 20_memory.md R24,
70_reset_and_hazards.md R113 to R116). -/

namespace Sys2Proof.Machine

/-- ChipSelect: exactly two variants (R57). Chip A owns channels 0 to 15, chip B 16 to 31 (R54). -/
inductive Chip where
  | a
  | b
  deriving DecidableEq, Repr

/-- What the block has sent a chip so far (R12). -/
inductive Phase where
  /-- code 0: nothing since reset -/
  | uninit
  /-- code 1: sleep and all-call to the mode register -/
  | sleeping
  /-- code 2: then 121 to the prescale register -/
  | prescaleSet
  /-- code 3: then auto-increment and all-call to the mode register -/
  | awake
  deriving DecidableEq, Repr

/-- The two gating pins `G0` and `G1` (R8, R14). They are abstract: no source gives pin numbers or says which pin
gates which chip (N4, Log 12). -/
inductive Pin where
  | g0
  | g1
  deriving DecidableEq, Repr

/-- A pin level: 0 is low, 1 is high (R24). -/
inductive Level where
  | low
  | high
  deriving DecidableEq, Repr

/-- The `STATUS` of a response (R47). Code 10b is never produced and has no name. -/
inductive Status where
  | ok
  | fail
  | illegal
  deriving DecidableEq, Repr

/-- The output events (R24). `PinMode` has one mode only, OUTPUT. -/
inductive Event where
  /-- `BusOpen` -/
  | busOpen
  /-- `BusWrite(addr, bytes)`: one write transaction, first byte first -/
  | busWrite (addr : BusAddr) (bytes : List Byte)
  /-- `PinMode(g, OUTPUT)` -/
  | pinMode (g : Pin)
  /-- `PinWrite(g, level)` -/
  | pinWrite (g : Pin) (level : Level)
  /-- `Delay(T_STAB)`, the duration in microseconds -/
  | delay (us : Nat)
  /-- `Resp(status, data)`, the response word of R46 -/
  | resp (status : Status) (data : BitVec 12)
  deriving DecidableEq, Repr

/-- Why the machine stops. -/
inductive Fault where
  /-- `UseBeforeInit(c)`: raised by SETPULSE alone, when the phase of the owning chip is not Awake (R92, R100). Safe:
  the spec calls the behaviour undefined and gives it neither an emitted nor a dropped transaction. -/
  | useBeforeInit (c : Chip)
  deriving DecidableEq, Repr

/-- Why an instruction has no meaning. -/
inductive Refusal where
  /-- Kept for an arm of `exec` without a meaning; no arm answers with it. Safe: a refusal claims nothing. -/
  | notModelled (mnemonic : String)
  deriving DecidableEq, Repr

/-- The bytes one chip was sent, by register address: addresses strictly rising, one entry each; an address that is
not listed has no value (R22, D28, Log 5). -/
abbrev Memory := List Host.Cell

/-- The state. The first eight fields are the block's own tuple (R9, R23); `trace` is its output (R24); `chipA` and
`chipB` are the shadow of the chips' registers (R22); `port` is what the host presents (R48); `params` are the open
parameters (R8); `refusalMark` is D4's mark. -/
structure State where
  /-- `ADDR_A` (R10) -/
  addrA : BusAddr
  /-- `ADDR_B` (R10) -/
  addrB : BusAddr
  /-- `USE_GATE` (R11) -/
  useGate : Bool
  /-- `PHASE[A]` (R12) -/
  phaseA : Phase
  /-- `PHASE[B]` (R12) -/
  phaseB : Phase
  /-- `GATE_DIR`: true when both pins are configured as outputs (R13) -/
  gateDir : Bool
  /-- `GATE_LEVEL[0]`, the output latch of `G0`; none is the spec's own "no value" (R14, Log 4) -/
  gateLevel0 : Option Level
  /-- `GATE_LEVEL[1]`, the output latch of `G1` (R14) -/
  gateLevel1 : Option Level
  /-- the output trace since reset, oldest event first (R24, R33) -/
  trace : List Event
  /-- `CHIPREG[A]` (R22, D28) -/
  chipA : Memory
  /-- `CHIPREG[B]` (R22, D28) -/
  chipB : Memory
  /-- the command words the host presents, in order of presentation (R18, R48, Log 7) -/
  port : List CmdWord
  /-- the open parameters, fixed at reset (R8) -/
  params : OpenParams
  /-- set by a reserved word and never cleared (D4, 93 U7, Log 8) -/
  refusalMark : Bool
  deriving DecidableEq, Repr

/-- The state after `RESET addrA, addrB, useGate` (R113, R114): it stores the three parameters and performs no I/O. -/
def State.resetWith (addrA addrB : BusAddr) (useGate : Bool) (params : OpenParams) : State :=
  { addrA := addrA, addrB := addrB, useGate := useGate,
    phaseA := .uninit, phaseB := .uninit,
    gateDir := false, gateLevel0 := none, gateLevel1 := none,
    trace := [], chipA := [], chipB := [], port := [], params := params, refusalMark := false }

/-- The reset of the board the spec's end-to-end scenario builds (S8): no jumpers set, gating pins in use, the
suggested mode bytes (DESIGN CHOICE and PRESUMED, Log 1, Log 2, Log 3). -/
def State.reset : State :=
  State.resetWith Config.noJumpers.1 Config.noJumpers.2 true OpenParams.suggested

end Sys2Proof.Machine
end

