-- ==== Sys2Proof/Machine/Constants.lean ====
section
/-! DEFINITION. The fixed constants of 00_scope.md R6 that the meanings compute with. -/

namespace Sys2Proof.Machine

/-- `REG_MODE` (R6, R31) -/
def regMode : Byte := 0x00

/-- `REG_PRESCALE` (R6, R31) -/
def regPrescale : Byte := 0xFE

/-- `REG_CH0`, the base address of the first channel block (R6, R31) -/
def regCh0 : Byte := 0x08

/-- `CH_STRIDE`, the bytes of a channel block (R6, R31) -/
def chStride : Byte := 4

/-- `OFF_LOW`, the offset of the off-low byte in a channel block (R6) -/
def offLow : Byte := 2

/-- `OFF_HIGH`, the offset of the off-high byte in a channel block (R6) -/
def offHigh : Byte := 3

/-- `PRESCALE`, the value written to the prescale register (R6, R71) -/
def prescaleValue : Byte := 121

/-- `SCALE_NUM` (R6, R58) -/
def scaleNum : Nat := 100

/-- `SCALE_DEN` (R6, R58) -/
def scaleDen : Nat := 488

/-- `TICK_MAX` (R6, R58) -/
def tickMax : Nat := 4095

/-- `TICKS_PER_PERIOD` (R6, R107) -/
def ticksPerPeriod : Nat := 4096

/-- `PERIOD_US`, the nominal output period in microseconds (R6, R107, R128) -/
def periodUs : Nat := 20000

/-- The nominal output rate in Hz, 50, the inverse of `PERIOD_US` (R6, R71) -/
def outputRateHz : Nat := 1000000 / periodUs

/-- `F_OSC_NOMINAL` in Hz (R6, R71) -/
def oscNominalHz : Nat := 25000000

/-- `LEVEL_ENABLED`: logic low enables the outputs (R6, R50) -/
def levelEnabled : Level := .low

/-- `LEVEL_DISABLED`: logic high mutes the outputs (R6, R50) -/
def levelDisabled : Level := .high

end Sys2Proof.Machine
end

