-- ==== Sys2Proof/Machine/Ops.lean ====
section
/-! DEFINITION. The named operations over the state: reading and writing the chips' shadow (10_state.md R22), emitting
events (20_memory.md R24), the write primitive (R25), driving the gating pins (43_gating.md R78), answering
(30_encoding.md R46), taking a command from the port (R48). There is no trap entry and no trap return (60_exceptions.md
R104, R105): an error is reported in the response of the command that met it, by `State.respond` and
`State.answerIllegal`. -/

namespace Sys2Proof.Machine

/-! ## The shadow of a chip's registers -/

/-- The byte a register was last sent; none where nothing was sent (R22). -/
def Memory.read (m : Memory) (a : Nat) : Option Byte :=
  match m with
  | [] => none
  | (x, v) :: rest => if x = a then some v else Memory.read rest a

/-- One byte sent to one register, the list kept in rising order (R22). -/
def Memory.write (m : Memory) (a : Nat) (b : Byte) : Memory :=
  match m with
  | [] => [(a, b)]
  | (x, v) :: rest =>
    if a < x then (a, b) :: (x, v) :: rest
    else if a = x then (a, b) :: rest
    else (x, v) :: Memory.write rest a b

/-- The data bytes of one transaction, to `reg`, `reg + 1`, ... in that order (R25). The register address has 8 bits
(R26); no command of the block reaches its end (R28, Log 5). -/
def Memory.writeBytes (m : Memory) (reg : Byte) (bytes : List Byte) : Memory :=
  match bytes with
  | [] => m
  | b :: rest => Memory.writeBytes (Memory.write m reg.toNat b) (reg + 1) rest

/-- Every listed address lies in `[lo, 256)` and they rise strictly. -/
def Memory.wfFrom (lo : Nat) (m : Memory) : Bool :=
  match m with
  | [] => true
  | (x, _) :: rest => decide (lo ≤ x) && decide (x < 256) && Memory.wfFrom (x + 1) rest

/-- The canonical form of a chip's shadow: 8-bit register addresses, strictly rising (R20, R22). -/
def Memory.wf (m : Memory) : Bool := Memory.wfFrom 0 m

/-! ## Accessors by chip and by pin -/

/-- The bus address of a chip: `ADDR_A` or `ADDR_B` (R10, R25). -/
def State.busAddr (s : State) (c : Chip) : BusAddr :=
  match c with
  | .a => s.addrA
  | .b => s.addrB

/-- `PHASE[c]` (R12). -/
def State.phase (s : State) (c : Chip) : Phase :=
  match c with
  | .a => s.phaseA
  | .b => s.phaseB

/-- `S.PHASE[c] <- p` (R12). -/
def State.setPhase (s : State) (c : Chip) (p : Phase) : State :=
  match c with
  | .a => { s with phaseA := p }
  | .b => { s with phaseB := p }

/-- `CHIPREG[c]` (R22). -/
def State.chipRegs (s : State) (c : Chip) : Memory :=
  match c with
  | .a => s.chipA
  | .b => s.chipB

/-- The shadow of chip `c` takes the data bytes of a transaction (R22, R25). -/
def State.storeChip (s : State) (c : Chip) (reg : Byte) (bytes : List Byte) : State :=
  match c with
  | .a => { s with chipA := Memory.writeBytes s.chipA reg bytes }
  | .b => { s with chipB := Memory.writeBytes s.chipB reg bytes }

/-- `GATE_LEVEL[g]` (R14). -/
def State.gateLevel (s : State) (g : Pin) : Option Level :=
  match g with
  | .g0 => s.gateLevel0
  | .g1 => s.gateLevel1

/-- `S.GATE_LEVEL[g] <- l` (R14). -/
def State.setGateLevel (s : State) (g : Pin) (l : Level) : State :=
  match g with
  | .g0 => { s with gateLevel0 := some l }
  | .g1 => { s with gateLevel1 := some l }

/-- `S.GATE_DIR <- 1` (R13, R69). -/
def State.setGateDir (s : State) : State := { s with gateDir := true }

/-! ## Output -/

/-- `emit E`: append the event to the output trace (R24, R33). -/
def State.emit (s : State) (e : Event) : State := { s with trace := s.trace ++ [e] }

/-- `MemWrite(c, reg, n, v)` with `n` the length of `v` (R25): one transaction to the bus address of `c`, the register
address first (Log 19). It is emitted whole and nothing tells the block whether it was delivered (R38). -/
def State.memWrite (s : State) (c : Chip) (reg : Byte) (v : List Byte) : State :=
  (s.emit (.busWrite (s.busAddr c) (reg :: v))).storeChip c reg v

/-- `emit PinMode(g, OUTPUT)` for both pins, then `GATE_DIR <- 1` (R69; the order of the pins is D12's, Log 11). -/
def State.configurePins (s : State) : State :=
  ((s.emit (.pinMode .g0)).emit (.pinMode .g1)).setGateDir

/-- `emit PinWrite(g, l); S.GATE_LEVEL[g] <- l` (R67, R79, R80). -/
def State.drivePin (s : State) (g : Pin) (l : Level) : State :=
  (s.emit (.pinWrite g l)).setGateLevel g l

/-- Both gating pins to one level, `G0` before `G1` (R78, R86, D12, Log 11). -/
def State.drivePins (s : State) (l : Level) : State := (s.drivePin .g0 l).drivePin .g1 l

/-- `resp(status, data)`: the response that ends a command (R46). -/
def State.respond (s : State) (st : Status) (data : BitVec 12) : State := s.emit (.resp st data)

/-! ## The command port -/

/-- The oldest word the host presents, and the state without it; none when the block is idle (R18, R48, Log 7). -/
def State.takeCommand (s : State) : Option (CmdWord × State) :=
  match s.port with
  | [] => none
  | w :: rest => some (w, { s with port := rest })

/-- The host presents one command word, next in turn (R48, Log 7). -/
def State.presentFirst (s : State) (w : CmdWord) : State := { s with port := w :: s.port }

/-- What a reserved word does (R44, R101): no state change, no event but `Resp(ILLEGAL, 0)`; the refusal is marked
(D4, Log 8). -/
def State.answerIllegal (s : State) : State :=
  { s.respond .illegal 0 with refusalMark := true }

end Sys2Proof.Machine
end

