-- ==== Sys2Proof/Machine/Flags.lean ====
section
/-! DEFINITION. The block has one result flag, the `STATUS` of one response; nothing is held (10_state.md R19). Here
stand its codes, the response word (30_encoding.md R46, R47), and the views of the gating state (R15, R78). -/

namespace Sys2Proof.Machine

/-- The two-bit code of a status (R47). -/
def statusCode (st : Status) : BitVec 2 :=
  match st with
  | .ok => 0b00
  | .fail => 0b01
  | .illegal => 0b11

/-- `RSP = {STATUS, 00b, DATA}` (R46). -/
def rspWord (st : Status) (data : BitVec 12) : RspWord := statusCode st ++ (0#2) ++ data

/-- The two-bit code of a phase (R12). -/
def phaseCode (p : Phase) : BitVec 2 :=
  match p with
  | .uninit => 0
  | .sleeping => 1
  | .prescaleSet => 2
  | .awake => 3

/-- The value of `STATUS` that ENABLE and DISABLE answer, from `USE_GATE` alone (R19, R81). -/
def gateStatus (useGate : Bool) : Status := if useGate then .ok else .fail

/-- OutputEnableState where it has a value (R15). -/
inductive OutputEnable where
  | enabled
  | disabled
  deriving DecidableEq, Repr

/-- `OutputEnableState(S)`, a function of the state and not state (R15). -/
def outputEnableState (s : State) : Option OutputEnable :=
  if s.useGate = false then none
  else if s.gateDir = false then none
  else if s.gateLevel0 = some .low ∧ s.gateLevel1 = some .low then some .enabled
  else if s.gateLevel0 = some .high ∧ s.gateLevel1 = some .high then some .disabled
  else none

/-- The four states of the gating machine, seen from outside (R78). -/
inductive Gating where
  | absent
  | undriven
  | disabled
  | enabled
  deriving DecidableEq, Repr

/-- The row of R78 a state falls under; none for a combination that R78 does not list. -/
def gatingState (s : State) : Option Gating :=
  match s.useGate, s.gateDir, s.gateLevel0, s.gateLevel1 with
  | false, false, none, none => some .absent
  | true, false, _, _ => some .undriven
  | true, true, some .high, some .high => some .disabled
  | true, true, some .low, some .low => some .enabled
  | _, _, _, _ => none

/-- The level the block drives on a pad; none while the pins are no outputs (R13, R14, R83). -/
def padLevel (s : State) (g : Pin) : Option Level := if s.gateDir then s.gateLevel g else none

end Sys2Proof.Machine
end

