-- ==== Sys2Proof/Machine/Operands.lean ====
section
/-! DEFINITION. The operand forms. A command has two immediates, `CH` and `US`, used as they stand (30_encoding.md R42);
a channel reaches a register through the Register Map (40_register_map.md R54). -/

namespace Sys2Proof.Machine

/-- A RegisterEntry: the owning chip and the base address of the channel block (R21, R54). -/
structure RegisterEntry where
  cs : Chip
  base : Byte
  deriving DecidableEq, Repr

/-- `CS = CH[4]`: 0 is chip A, 1 is chip B (R54). -/
def chipOf (ch : Channel) : Chip := if ch.getLsbD 4 then .b else .a

/-- `BASE = 0x08 + 4 * CH[3:0]` (R54). -/
def baseOf (ch : Channel) : Byte := regCh0 + chStride * (ch.extractLsb' 0 4).setWidth 8

/-- `lookup(CH)`: the Register Map, total over the 32 channels (R54). -/
def lookup (ch : Channel) : RegisterEntry := { cs := chipOf ch, base := baseOf ch }

/-- The bit that stands for a chip in the data of LOOKUP: 0 for A, 1 for B (R46). -/
def chipBit (c : Chip) : BitVec 1 :=
  match c with
  | .a => 0
  | .b => 1

/-- `{000b, CS, BASE[7:0]}` (R46, R56). -/
def entryData (e : RegisterEntry) : BitVec 12 := (0#3) ++ chipBit e.cs ++ e.base

/-- The low byte of a tick count, `t & 0xFF` (R27, R87). -/
def ticksLow (t : Ticks) : Byte := t.extractLsb' 0 8

/-- The high byte of a tick count, `(t >> 8) & 0xFF`: bits 11:8 in the low nibble, zeros above (R27, R87, R90). -/
def ticksHigh (t : Ticks) : Byte := (t.extractLsb' 8 4).setWidth 8

end Sys2Proof.Machine
end

