-- ==== Sys2Proof/Machine/Converter.lean ====
section
/-! DEFINITION. The PWM Timing Converter and the CONV command (41_timing_converter.md). -/

namespace Sys2Proof.Machine

/-- `(us * 100) // 488`, the product exact on the naturals (R58, R60, Log 14). -/
def rawTicks (us : Micros) : Nat := us.toNat * scaleNum / scaleDen

/-- `microsecondsToTicks(us) = min((us * 100) // 488, 4095)` (R58); it fits 12 bits (R64 (b)). -/
def microsecondsToTicks (us : Micros) : Ticks := BitVec.ofNat 12 (min (rawTicks us) tickMax)

/-- `CONV us` answers the tick count; saturation sets no flag (R59, R62). -/
def execConv (us : Micros) (s : State) : Host.Outcome State Fault Refusal :=
  .next (s.respond .ok (microsecondsToTicks us))

end Sys2Proof.Machine
end

