-- ==== Sys2Proof/Machine/Gating.lean ====
section
/-! DEFINITION. The ENABLE and DISABLE commands (43_gating.md R79 to R86). -/

namespace Sys2Proof.Machine

/-- With gating pins in use, drive both to the level and answer OK; otherwise answer FAIL and touch no pin (R79 to
R82). `GATE_DIR` and `PHASE` are neither read nor written (R83, R85). -/
def gateCommand (l : Level) (s : State) : State :=
  (if s.useGate then s.drivePins l else s).respond (gateStatus s.useGate) 0

/-- `ENABLE`: both pins low (R79). -/
def execEnable (s : State) : Host.Outcome State Fault Refusal := .next (gateCommand levelEnabled s)

/-- `DISABLE`: both pins high (R80). -/
def execDisable (s : State) : Host.Outcome State Fault Refusal := .next (gateCommand levelDisabled s)

end Sys2Proof.Machine
end

