-- ==== Sys2Proof/Machine/Initialize.lean ====
section
/-! DEFINITION. The INIT command, step by step (42_initialize.md R67 to R77). -/

namespace Sys2Proof.Machine

/-- Step 1: "Open the bus transport" (R68), on every INIT (20_memory.md R39). -/
def initOpenBus (s : State) : State := s.emit .busOpen

/-- Step 2: with gating pins in use, configure both as outputs and drive both to the disabled level (R69). -/
def initMutePins (s : State) : State :=
  if s.useGate then s.configurePins.drivePins levelDisabled else s

/-- One register write to chip A, then the same to chip B, each chip's phase moving as its write is emitted (R70 to
R72, R75). -/
def writeBothChips (s : State) (reg : Byte) (v : Byte) (p : Phase) : State :=
  (((s.memWrite .a reg [v]).setPhase .a p).memWrite .b reg [v]).setPhase .b p

/-- Step 3: sleep and all-call to both mode registers (R70). -/
def initSleepChips (s : State) : State := writeBothChips s regMode s.params.modeSleepAllcall .sleeping

/-- Step 4: 121 to both prescale registers (R71). -/
def initSetPrescale (s : State) : State := writeBothChips s regPrescale prescaleValue .prescaleSet

/-- Step 5: auto-increment and all-call to both mode registers, which clears sleep (R72). -/
def initWakeChips (s : State) : State := writeBothChips s regMode s.params.modeAiAllcall .awake

/-- Step 6: wait at least 100 ms before any further register access (R73). -/
def initStabilise (s : State) : State := s.emit (.delay s.params.tStab)

/-- `INIT`: the six steps in that order, then `Resp(OK, 0)` (R67, R74). It reports no failure (R77). -/
def execInit (s : State) : Host.Outcome State Fault Refusal :=
  .next ((initStabilise (initWakeChips (initSetPrescale (initSleepChips (initMutePins (initOpenBus s)))))).respond .ok 0)

end Sys2Proof.Machine
end

