-- ==== Sys2Proof/Machine/RegisterMap.lean ====
section
/-! DEFINITION. The LOOKUP command (40_register_map.md R56). -/

namespace Sys2Proof.Machine

/-- `LOOKUP ch` answers the RegisterEntry of the channel; it has no error path and touches nothing (R56). -/
def execLookup (ch : Channel) (s : State) : Host.Outcome State Fault Refusal :=
  .next (s.respond .ok (entryData (lookup ch)))

end Sys2Proof.Machine
end

