-- ==== Sys2Proof/Machine/SetPulse.lean ====
section
/-! DEFINITION. The SETPULSE command (44_set_pulse.md R87 to R94). -/

namespace Sys2Proof.Machine

/-- The one transaction of SETPULSE: the off bytes of the channel, low byte first, to the owning chip (R87, R88). -/
def writeOffTicks (s : State) (ch : Channel) (t : Ticks) : State :=
  s.memWrite (lookup ch).cs ((lookup ch).base + offLow) [ticksLow t, ticksHigh t]

/-- `SETPULSE ch, us`: the phase of the owning chip is examined before anything is emitted (R103); when it is not
Awake the behaviour is undefined and the model faults (R92, Log 9). Every `us` is accepted (R94). -/
def execSetpulse (ch : Channel) (us : Micros) (s : State) : Host.Outcome State Fault Refusal :=
  if s.phase (lookup ch).cs = .awake then
    .next ((writeOffTicks s ch (microsecondsToTicks us)).respond .ok 0)
  else .fault (.useBeforeInit (lookup ch).cs)

end Sys2Proof.Machine
end

