-- ==== Sys2Proof/Machine/Dispatch.lean ====
section
/-! DEFINITION. What each command does: one arm per command (30_encoding.md R41). -/

namespace Sys2Proof.Machine

def exec (i : Instr) (s : State) : Host.Outcome State Fault Refusal :=
  match i with
  | .lookup ch => Sys2Proof.Machine.execLookup ch s
  | .conv us => Sys2Proof.Machine.execConv us s
  | .init => Sys2Proof.Machine.execInit s
  | .enable => Sys2Proof.Machine.execEnable s
  | .disable => Sys2Proof.Machine.execDisable s
  | .setpulse ch us => Sys2Proof.Machine.execSetpulse ch us s

end Sys2Proof.Machine
end

