-- ==== Sys2Proof/Machine/Step.lean ====
section
/-! DEFINITION. One step of the block: the command the host presents next runs to completion (30_encoding.md R48,
00_scope.md R5). -/

namespace Sys2Proof.Machine

/-- Take the next command word and run it; a reserved word is answered ILLEGAL (R44, R101); with nothing presented the
block is idle and nothing changes (R48, Log 7). The decoder comes before any other check (R103). -/
def step (s : State) : Host.Outcome State Fault Refusal :=
  match s.takeCommand with
  | none => .next s
  | some (w, s') =>
    match decode w with
    | .ok i => exec i s'
    | .invalid _ => .next s'.answerIllegal

/-- The state with one more command word at the head of the port, so that the next step runs it (Log 7, Log 20). -/
def State.withFetchWord (s : State) (nbits w : Nat) : State := s.presentFirst (tableWord nbits w)

end Sys2Proof.Machine
end

