-- ==== Sys2Proof/Machine/Chips.lean ====
section
/-! DEFINITION. What the spec says of the outside, as functions of the state and of the trace: the registers of the two
chips as the block has sent them (10_state.md R22), the chips' timer and output (60_exceptions.md R107 to R109), and
the level on a gating pad (70_reset_and_hazards.md R125). No step reads any of these. A claim about the real chips takes
"every transaction was delivered" as a premise, `everyDelivered` (R126, Log 13). -/

namespace Sys2Proof.Machine

/-- `CHIPREG[c][reg]`: the byte the block last sent to that register; none where it sent nothing (R22). -/
def sentByte (s : State) (c : Chip) (reg : Byte) : Option Byte := Memory.read (s.chipRegs c) reg.toNat

/-- One event as the bus address `a` sees it: a transaction to `a` sets the bytes it carries, from the register its
first byte names (R22, R25). -/
def receive (a : BusAddr) (m : Memory) (e : Event) : Memory :=
  match e with
  | .busWrite a' (reg :: data) => if a' = a then Memory.writeBytes m reg data else m
  | _ => m

/-- The shadow folded from the trace by bus address (R22). -/
def sentTo (a : BusAddr) (t : List Event) : Memory := t.foldl (receive a) []

/-- The tick count in the channel block of `ch`, among the registers of its chip: off-low and the low nibble of off-high
(R27, R109). -/
def ticksOf (m : Memory) (ch : Channel) : Option Ticks :=
  match Memory.read m (baseOf ch + offLow).toNat, Memory.read m (baseOf ch + offHigh).toNat with
  | some lo, some hi => some (hi.setWidth 4 ++ lo)
  | _, _ => none

/-- The tick count last sent for a channel (R22, R27). -/
def sentTicks (s : State) (ch : Channel) : Option Ticks := ticksOf (s.chipRegs (chipOf ch)) ch

/-! ## What the chips received -/

/-- Which transactions reach the chips: whether event `n` of the trace does, if it is one. Nothing tells the block (R38,
R126), so this is an argument of a claim about the chips and never state (Log 13). -/
abbrev Delivery := Nat → Bool

/-- A bus transaction (R24). -/
def isBusWrite (e : Event) : Bool :=
  match e with
  | .busWrite _ _ => true
  | _ => false

/-- `everyDelivered` of the events from event `n` on. -/
def everyDeliveredFrom (d : Delivery) (n : Nat) (t : List Event) : Bool :=
  match t with
  | [] => true
  | e :: rest => (!isBusWrite e || d n) && everyDeliveredFrom d (n + 1) rest

/-- "every transaction was delivered": the premise a claim about the chips must take (R126, U2). -/
def everyDelivered (d : Delivery) (t : List Event) : Bool := everyDeliveredFrom d 0 t

/-- The registers `m` at bus address `a` after the events from event `n` on; a transaction is
lost whole and then changes nothing (Log 13). -/
def receivedFrom (d : Delivery) (a : BusAddr) (n : Nat) (m : Memory) (t : List Event) : Memory :=
  match t with
  | [] => m
  | e :: rest => receivedFrom d a (n + 1) (if d n then receive a m e else m) rest

/-- What chip `c` received, by its bus address: at equal addresses the two chips received the same (R126, R127). -/
def received (d : Delivery) (s : State) (c : Chip) : Memory := receivedFrom d (s.busAddr c) 0 [] s.trace

/-- The byte a register of chip `c` last received; none where it received nothing (R22, R126). -/
def receivedByte (d : Delivery) (s : State) (c : Chip) (reg : Byte) : Option Byte :=
  Memory.read (received d s c) reg.toNat

/-! ## The timer and the output of a chip -/

/-- `round(25_000_000 / (4096 * rate)) - 1`, the prescale of an output rate in Hz, rounding to nearest (R71, R108). -/
def prescaleFor (rate : Nat) : Nat :=
  (oscNominalHz + ticksPerPeriod * rate / 2) / (ticksPerPeriod * rate) - 1

/-- One tick at prescale `p` in nanoseconds at the nominal oscillator, `(p + 1) / 25 MHz` (R108). -/
def tickNs (p : Nat) : Nat := (p + 1) * (1000000000 / oscNominalHz)

/-- One output period at prescale `p` in nanoseconds, `4096 * (p + 1) / 25 MHz` (R108). -/
def periodNs (p : Nat) : Nat := ticksPerPeriod * tickNs p

/-- Whether the output of a channel is on at tick `k` of a period, as R109 describes it (DEDUCED, Log 18): on for ticks
0 to `t - 1`, provided the chip is awake and, when gating is in use, the pins are low; off while the pins are high. None
where the spec gives no answer: a transaction was lost (R126), no tick count received, a count of 0 (N10), a chip not
awake, and, when gating is in use, pads not driven.
Three answers are the model's choice (DEDUCED, Log 18), taken from R109's general sentence although 91_not_in_source.md
says the source settles none of them: at a count of 4095 (N10) the output is on for ticks 0 to 4094; with `USE_GATE` = 0
(N5) it is as if un-muted; and a count sent before a second INIT survives the sleep in it (N16), so the output follows
that count again after it. -/
def outputAt (d : Delivery) (s : State) (ch : Channel) (k : Ticks) : Option Bool :=
  if everyDelivered d s.trace = true ∧ s.phase (chipOf ch) = .awake then
    match ticksOf (received d s (chipOf ch)) ch with
    | none => none
    | some t =>
      if t = 0 then none
      else if s.useGate = false ∨ outputEnableState s = some .enabled then some (decide (k.toNat < t.toNat))
      else if outputEnableState s = some .disabled then some false
      else none
  else none

/-- What a gating pad carries as far as the spec says (R13, R83, R125). -/
inductive Pad where
  /-- not driven by the block -/
  | undriven
  /-- an output, the level any value: the window from `PinMode` to `PinWrite` -/
  | anyValue
  /-- driven to a level -/
  | driven (l : Level)
  deriving DecidableEq, Repr

/-- One event as pad `g` sees it: `PinMode` opens the window in which its level is any value (R125), `PinWrite` drives
it once the pin is an output and only loads the latch before (R83). -/
def padNext (g : Pin) (p : Pad) (e : Event) : Pad :=
  match e with
  | .pinMode g' => if g' = g then .anyValue else p
  | .pinWrite g' l => if g' = g ∧ p ≠ .undriven then .driven l else p
  | _ => p

/-- What pad `g` carries after a trace that begins at reset (R115, R125). -/
def padAfter (g : Pin) (t : List Event) : Pad := t.foldl (padNext g) .undriven

end Sys2Proof.Machine
end

