-- ==== Sys2Proof/Safety.lean ====
section
/-! DEFINITION. The invariants of the block and what counts as a safe run, in the terms the statements use: the
invariants of 10_state.md R23, the shadow's, and the ordering rules that hold of every trace (42_initialize.md R74,
70_reset_and_hazards.md R119, R120). -/

namespace Sys2Proof.Safety

open Sys2Proof.Machine

/-- A run that met no reserved word; one that did is not final (D4, Log 8). -/
def Final (s : State) : Prop := s.refusalMark = false

/-- The invariants (i) to (iv) of R23. -/
structure BlockInv (s : State) : Prop where
  /-- (i) -/
  absent : s.useGate = false → s.gateDir = false ∧ s.gateLevel0 = none ∧ s.gateLevel1 = none
  /-- (ii) -/
  oneLevel : s.gateLevel0 = s.gateLevel1
  /-- (iii) -/
  onePhase : s.phaseA = s.phaseB ∧ (s.phaseA = .uninit ∨ s.phaseA = .awake)
  /-- (iv) -/
  driven : s.gateDir = true →
    s.phaseA = .awake ∧ s.phaseB = .awake ∧ s.gateLevel0 ≠ none ∧ s.gateLevel1 ≠ none

/-- The shadow of both chips has its canonical form (R20, R22). -/
def MemoryInv (s : State) : Prop := Memory.wf s.chipA = true ∧ Memory.wf s.chipB = true

/-- What the shadow of each chip holds: nothing before INIT; the wake byte and 121 after it; bytes in no register but
those of R31; no off-high byte above 0x0F (R90). -/
structure ShadowInv (s : State) : Prop where
  uninit : ∀ c, s.phase c = .uninit → ∀ reg, sentByte s c reg = none
  awake : ∀ c, s.phase c = .awake →
    sentByte s c 0x00 = some s.params.modeAiAllcall ∧ sentByte s c 0xFE = some 0x79
  named : ∀ c reg, sentByte s c reg ≠ none →
    reg = 0x00 ∨ reg = 0xFE ∨ ∃ ch, chipOf ch = c ∧ (reg = baseOf ch + 2 ∨ reg = baseOf ch + 3)
  highNibble : ∀ ch v, sentByte s (chipOf ch) (baseOf ch + 3) = some v → v.toNat < 16

/-- With two different bus addresses the shadow is the fold of the trace (R22). -/
def TraceFoldInv (s : State) : Prop :=
  s.addrA ≠ s.addrB → s.chipA = sentTo s.addrA s.trace ∧ s.chipB = sentTo s.addrB s.trace

/-- The pads the trace tells of are those of `GATE_DIR` and `GATE_LEVEL` (R13, R14). -/
def PadInv (s : State) : Prop :=
  ∀ g, padAfter g s.trace =
    if s.gateDir then
      match s.gateLevel g with
      | some l => .driven l
      | none => .anyValue
    else .undriven

/-- The mode register at bus address `a` after one more event, as far as the trace tells (R31). -/
def modeNext (a : BusAddr) (m : Option Byte) (e : Event) : Option Byte :=
  match e with
  | .busWrite a' (reg :: v :: _) => if a' = a ∧ reg = 0x00 then some v else m
  | _ => m

/-- The byte last sent to the mode register at bus address `a`. -/
def lastMode (a : BusAddr) (t : List Event) : Option Byte := t.foldl (modeNext a) none

/-- Every write to a prescale register is 121 and finds the byte last sent to the mode register of the same bus
address to be the sleep byte (R71, R119). -/
def PrescaleOnlyAsleep (sleepByte : Byte) (t : List Event) : Prop :=
  ∀ pre post a data, t = pre ++ Event.busWrite a (0xFE :: data) :: post →
    data = [0x79] ∧ lastMode a pre = some sleepByte

/-- A delay of at least 100 ms has passed since the last register write of INIT; only pulse writes, of three bytes,
may lie after it (R73, R120). -/
def Settled (t : List Event) : Prop :=
  ∃ before d after, t = before ++ Event.delay d :: after ∧ 100000 ≤ d ∧
    ∀ a bytes, Event.busWrite a bytes ∈ after → bytes.length = 3

/-- At every response, the end of a command, an earlier bus write has settled: so every access of a later command
comes after the wait (R34, R120). And so it is now, and whenever a chip is Awake. -/
def SettledInv (s : State) : Prop :=
  (∀ pre st d post, s.trace = pre ++ Event.resp st d :: post →
    (∃ a bytes, Event.busWrite a bytes ∈ pre) → Settled pre) ∧
  ((∃ a bytes, Event.busWrite a bytes ∈ s.trace) ∨ s.phaseA = .awake ∨ s.phaseB = .awake → Settled s.trace)

/-- Every bus write comes after a `BusOpen`, and a phase other than Uninit tells that the bus was opened (R39, D23). -/
def OpenedInv (s : State) : Prop :=
  (∀ pre post a bytes, s.trace = pre ++ Event.busWrite a bytes :: post → Event.busOpen ∈ pre) ∧
  (s.phaseA ≠ .uninit ∨ s.phaseB ≠ .uninit → Event.busOpen ∈ s.trace)

/-- A pin event (R24). -/
def isPinEvent (e : Event) : Bool :=
  match e with
  | .pinMode _ => true
  | .pinWrite _ _ => true
  | _ => false

/-- A response (R24). -/
def isResponse (e : Event) : Bool :=
  match e with
  | .resp _ _ => true
  | _ => false

/-- The prescale rule of a state's own trace. -/
def PrescaleInv (s : State) : Prop := PrescaleOnlyAsleep s.params.modeSleepAllcall s.trace

end Sys2Proof.Safety
end

