-- ==== Sys2Proof/WellFormed.lean ====
section
/-! DEFINITION. Which fields make a command word (30_encoding.md R41, R43). An `Instr` needs no check of its own:
its operands are typed at the widths of R42 and every value of them is legal (R42, 60_exceptions.md R99). -/

namespace Sys2Proof

/-- `OP` is one of the six defined opcodes 1 to 6 (R41). -/
def Fields.opDefined (f : Fields) : Bool := 1 ≤ f.op.toNat && f.op.toNat ≤ 6

/-- The commands that use `CH`: LOOKUP and SETPULSE (R41). -/
def Fields.usesCh (f : Fields) : Bool := f.op == 1 || f.op == 6

/-- The commands that use `US`: CONV and SETPULSE (R41). -/
def Fields.usesUs (f : Fields) : Bool := f.op == 2 || f.op == 6

/-- A `CH` the command does not use is zero (R43). -/
def Fields.chOk (f : Fields) : Bool := f.usesCh || f.ch == 0

/-- A `US` the command does not use is zero (R43). -/
def Fields.usOk (f : Fields) : Bool := f.usesUs || f.us == 0

/-- The fields of a command: none of the reserved encodings of R44. -/
def Fields.wf (f : Fields) : Bool := f.opDefined && f.chOk && f.usOk

end Sys2Proof
end

