-- ==== Sys2Proof/Certificates/Slice0/Obligations.lean ====
section
/-! DEFINITION. The statements for the provers. Each docstring names the rules of spec/ it formalises. A number in a
statement is the spec's, written out, so that a wrong constant of the model makes the statement false. -/

open Sys2Proof Sys2Proof.Machine Sys2Proof.Safety

/-! ## Decoding -/

/-- Round trip of 95_test_vectors.md V-DECODE over R40 to R43: every command, with every operand, decodes from its own
word. (That unused fields are zeros is the spec's own choice, D3.) -/
def Obligations.DecodeOfEncodeIsTheCommand : Prop :=
  ∀ i : Instr, decode (encode i) = .ok i

/-- The other direction of V-DECODE: a word that decodes is the one word of its command (R45, D3). -/
def Obligations.EncodeOfDecodeIsTheWord : Prop :=
  ∀ (w : CmdWord) (i : Instr), decode w = .ok i → encode i = w

/-- R42, R43: the table of masks and matches, with the operands as they stand; any other word decodes to no command.
(That a non-zero unused field makes a word reserved is the spec's own choice, D3.) -/
def Obligations.DecodeFollowsTheMaskTable : Prop :=
  ∀ w : CmdWord,
    (∀ ch : Channel, decode w = .ok (.lookup ch) ↔
      w &&& 0xE0FFFFFFFF = 0x2000000000 ∧ ch = w.extractLsb' 32 5) ∧
    (∀ us : Micros, decode w = .ok (.conv us) ↔
      w &&& 0xFF00000000 = 0x4000000000 ∧ us = w.extractLsb' 0 32) ∧
    (decode w = .ok .init ↔ w &&& 0xFFFFFFFFFF = 0x6000000000) ∧
    (decode w = .ok .enable ↔ w &&& 0xFFFFFFFFFF = 0x8000000000) ∧
    (decode w = .ok .disable ↔ w &&& 0xFFFFFFFFFF = 0xA000000000) ∧
    (∀ (ch : Channel) (us : Micros), decode w = .ok (.setpulse ch us) ↔
      w &&& 0xE000000000 = 0xC000000000 ∧ ch = w.extractLsb' 32 5 ∧ us = w.extractLsb' 0 32) ∧
    ((∃ r, decode w = .invalid r) ↔
      w &&& 0xE0FFFFFFFF ≠ 0x2000000000 ∧ w &&& 0xFF00000000 ≠ 0x4000000000 ∧
      w &&& 0xFFFFFFFFFF ≠ 0x6000000000 ∧ w &&& 0xFFFFFFFFFF ≠ 0x8000000000 ∧
      w &&& 0xFFFFFFFFFF ≠ 0xA000000000 ∧ w &&& 0xE000000000 ≠ 0xC000000000)

/-- R44: the words that decode to no command are those with `OP` = 0, `OP` = 7 or a non-zero unused field, and the
checks of WellFormed.lean say the same. (The unused fields are the spec's own choice, D3.) -/
def Obligations.ReservedWordsAreRejected : Prop :=
  ∀ w : CmdWord,
    ((∃ r, decode w = .invalid r) ↔
      w.extractLsb' 37 3 = 0 ∨ w.extractLsb' 37 3 = 7 ∨
      (w.extractLsb' 37 3 = 1 ∧ w.extractLsb' 0 32 ≠ 0) ∨
      (w.extractLsb' 37 3 = 2 ∧ w.extractLsb' 32 5 ≠ 0) ∨
      ((w.extractLsb' 37 3 = 3 ∨ w.extractLsb' 37 3 = 4 ∨ w.extractLsb' 37 3 = 5) ∧
        (w.extractLsb' 32 5 ≠ 0 ∨ w.extractLsb' 0 32 ≠ 0))) ∧
    ((∃ r, decode w = .invalid r) ↔ (splitFields w).wf = false)

/-- Words of 95_test_vectors.md V-DECODE, one per command and the reserved ones. -/
def Obligations.SampleWordsDecode : Prop :=
  decode 0x3F00000000 = .ok (.lookup 31) ∧
  decode 0x40FFFFFFFF = .ok (.conv 4294967295) ∧
  decode 0x6000000000 = .ok .init ∧
  decode 0x8000000000 = .ok .enable ∧
  decode 0xA000000000 = .ok .disable ∧
  decode 0xDFFFFFFFFF = .ok (.setpulse 31 4294967295) ∧
  decode 0x0000000000 = .invalid .opcode ∧
  decode 0xE000000000 = .invalid .opcode ∧
  decode 0x2000000001 = .invalid .microsField ∧
  decode 0x4100000000 = .invalid .channelField ∧
  decode 0xA000000100 = .invalid .microsField

/-! ## Stepping -/

/-- R48, R103: a presented word that decodes is run by exec, the port advanced and nothing else added. (That the
presented words are a list of which a step takes the head is the model's choice, Log 7.) -/
def Obligations.StepRunsTheDecodedCommand : Prop :=
  ∀ (s : State) (w : CmdWord) (rest : List CmdWord) (i : Instr),
    s.port = w :: rest → decode w = .ok i → step s = exec i { s with port := rest }

/-- A word placed with withFetchWord is the one the next step runs (the model's choice, Log 7 and Log 20). -/
def Obligations.StepRunsThePlacedTableWord : Prop :=
  ∀ (s : State) (nbits w : Nat) (i : Instr),
    decodeTableWord nbits w = some i → step (s.withFetchWord nbits w) = exec i s

/-- With nothing presented the block is idle and a step changes nothing (the model's choice, Log 7). -/
def Obligations.IdleStepChangesNothing : Prop :=
  ∀ s : State, s.port = [] → step s = .next s

/-- R44, R101 with D4: a reserved word is answered `Resp(ILLEGAL, 0)`, the response word 0xC000, with no state change
and no other event. That the step answers a next state and marks the refusal is the model's choice, Log 8. -/
def Obligations.ReservedWordIsAnsweredIllegal : Prop :=
  ∀ (s : State) (w : CmdWord) (rest : List CmdWord) (r : Reserved),
    s.port = w :: rest → decode w = .invalid r →
    step s = .next { s with port := rest, trace := s.trace ++ [Event.resp .illegal 0], refusalMark := true } ∧
    rspWord .illegal 0 = 0xC000

/-- The refusal mark tells exactly that some reserved word was met and is never cleared (D4; the model's choice,
Log 8). -/
def Obligations.RefusalMarkIsKept : Prop :=
  ∀ s t : State, step s = .next t →
    (t.refusalMark = true ↔
      s.refusalMark = true ∨ ∃ w rest r, s.port = w :: rest ∧ decode w = .invalid r)

/-- The one fault is `UseBeforeInit(c)`, raised by SETPULSE alone and only when the owning chip is not Awake; no
command is ever refused (60_exceptions.md R95, R100). -/
def Obligations.OnlySetpulseFaults : Prop :=
  ∀ (i : Instr) (s : State),
    (∀ r, exec i s ≠ .refused r) ∧
    (∀ f, exec i s = .fault f →
      ∃ ch us, i = .setpulse ch us ∧ f = .useBeforeInit (chipOf ch) ∧ s.phase (chipOf ch) ≠ .awake)

/-- R46: every command ends with exactly one response, its last event; nothing of the trace is ever taken back (R33).
A reserved word too, by R44 with the spec's D4 and as the model's step answers it, Log 8. -/
def Obligations.EveryCommandEndsWithOneResponse : Prop :=
  ∀ s t : State, s.port ≠ [] → step s = .next t →
    ∃ (es : List Event) (st : Status) (d : BitVec 12),
      t.trace = s.trace ++ es ++ [Event.resp st d] ∧ ∀ e, e ∈ es → isResponse e = false

/-- R46, R47: the layout of the response word and the codes of its status. -/
def Obligations.ResponseWordLayout : Prop :=
  (∀ (st : Status) (d : BitVec 12),
    (rspWord st d).extractLsb' 14 2 = statusCode st ∧ (rspWord st d).extractLsb' 12 2 = 0 ∧
    (rspWord st d).extractLsb' 0 12 = d) ∧
  statusCode .ok = 0 ∧ statusCode .fail = 1 ∧ statusCode .illegal = 3

/-! ## LOOKUP and the Register Map -/

/-- R54, R56: LOOKUP answers the entry of the channel, in any state, and changes nothing else. (That it is a command is
the spec's own choice, D2, and that it answers `{000b, CS, BASE}` its D5 in R46.) -/
def Obligations.LookupAnswersTheEntry : Prop :=
  ∀ (ch : Channel) (s : State),
    exec (.lookup ch) s =
      .next { s with trace := s.trace ++
        [Event.resp .ok (BitVec.ofNat 12 (256 * (ch.toNat / 16) + (0x08 + 4 * (ch.toNat % 16))))] }

/-- R54, R55: the chip and the base address of every channel, and what follows from them (R55 marks what
follows as the spec's own inference from R54). -/
def Obligations.RegisterMapProperties : Prop :=
  (∀ ch : Channel,
    (ch.toNat < 16 → (lookup ch).cs = .a) ∧ (16 ≤ ch.toNat → (lookup ch).cs = .b) ∧
    (lookup ch).base.toNat = 0x08 + 4 * (ch.toNat % 16) ∧
    (lookup ch).base.extractLsb' 0 2 = 0 ∧
    (lookup ch).base.toNat = (ch.toNat % 16 + 2) * 4 ∧
    (lookup ch).base.toNat + 3 ≤ 0x47) ∧
  (∀ ch : Channel, ch.toNat % 16 < 15 →
    (lookup (ch + 1)).cs = (lookup ch).cs ∧ (lookup (ch + 1)).base.toNat = (lookup ch).base.toNat + 4) ∧
  (∀ ch : Channel, ch.toNat < 16 → (lookup (ch + 16)).base = (lookup ch).base) ∧
  (∀ ch ch' : Channel, ch ≠ ch' → (lookup ch).cs = (lookup ch').cs →
    ∀ k k' : Nat, k < 4 → k' < 4 → (lookup ch).base.toNat + k ≠ (lookup ch').base.toNat + k')

/-! ## CONV and the Timing Converter -/

/-- R58, R59: CONV answers `min((us * 100) // 488, 4095)`, the product exact, in any state, and changes nothing else.
(That it is a command of its own is the spec's choice, D2; that the product is exact is its D8, Log 14.) -/
def Obligations.ConvAnswersTheTicks : Prop :=
  ∀ (us : Micros) (s : State),
    exec (.conv us) s =
      .next { s with trace := s.trace ++ [Event.resp .ok (BitVec.ofNat 12 (min (us.toNat * 100 / 488) 4095))] }

/-- R62, R63: the exact threshold of saturation, silent in the response, and the values that give 0
(the spec marks both as its own inference from R58). -/
def Obligations.ConverterThresholds : Prop :=
  ∀ us : Micros,
    (microsecondsToTicks us = 4095 ↔ 19984 ≤ us.toNat) ∧
    (us.toNat ≤ 19983 → (microsecondsToTicks us).toNat = us.toNat * 100 / 488 ∧ us.toNat * 100 / 488 ≤ 4094) ∧
    (19984 ≤ us.toNat ∧ us.toNat ≤ 19988 → us.toNat * 100 / 488 = 4095) ∧
    (19989 ≤ us.toNat → 4096 ≤ us.toNat * 100 / 488) ∧
    (microsecondsToTicks us = 0 ↔ us.toNat ≤ 4) ∧
    (∀ s : State, exec (.conv us) s =
      .next { s with trace := s.trace ++ [Event.resp .ok (microsecondsToTicks us)] })

/-- R64 (a) to (f): range, monotone, the bound of the quotient, steps of 0 or 1, runs of 4 or 5, and that CONV's answer
depends on `us` alone. (Total by its type; the spec marks all six as its own inference from R58.) -/
def Obligations.ConverterProperties : Prop :=
  (∀ us : Micros, (microsecondsToTicks us).toNat ≤ 4095 ∧ (ticksHigh (microsecondsToTicks us)).toNat ≤ 15 ∧
    (ticksHigh (microsecondsToTicks us)).toNat = (microsecondsToTicks us).toNat / 256) ∧
  (∀ a b : Micros, a.toNat ≤ b.toNat → (microsecondsToTicks a).toNat ≤ (microsecondsToTicks b).toNat) ∧
  (∀ us : Micros, us.toNat ≤ 19983 →
    488 * (microsecondsToTicks us).toNat ≤ 100 * us.toNat ∧
    100 * us.toNat < 488 * ((microsecondsToTicks us).toNat + 1)) ∧
  (∀ a b : Micros, b.toNat = a.toNat + 1 →
    (microsecondsToTicks b).toNat = (microsecondsToTicks a).toNat ∨
    (microsecondsToTicks b).toNat = (microsecondsToTicks a).toNat + 1) ∧
  (∀ t : Nat, t < 4095 → ∃ u n, (n = 4 ∨ n = 5) ∧
    ∀ us : Micros, (microsecondsToTicks us).toNat = t ↔ u ≤ us.toNat ∧ us.toNat < u + n) ∧
  (∀ (us : Micros) (s s' t t' : State), exec (.conv us) s = .next t → exec (.conv us) s' = .next t' →
    ∃ e, t.trace = s.trace ++ [e] ∧ t'.trace = s'.trace ++ [e])

/-- R65: (a) and (b) are the same function; (c), the product wrapped at 32 bits, is not. (The spec marks them as its own
inference from R58.) -/
def Obligations.ConverterEquivalentForms : Prop :=
  (∀ us : Micros,
    (microsecondsToTicks us).toNat = min (us.toNat * 25 / 122) 4095 ∧
    (microsecondsToTicks us).toNat = (if 19984 ≤ us.toNat then 4095 else us.toNat * 100 / 488) ∧
    (us.toNat < 19984 → us.toNat * 100 ≤ 1998300 ∧ us.toNat * 100 < 2 ^ 21) ∧
    (us.toNat ≤ 42949672 →
      (microsecondsToTicks us).toNat = min (us.toNat * 100 % 2 ^ 32 / 488) 4095)) ∧
  min (42949673 * 100 % 2 ^ 32 / 488) 4095 = 0 ∧ microsecondsToTicks 42949673 = 4095 ∧
  min (2147483648 * 100 % 2 ^ 32 / 488) 4095 = 0 ∧ microsecondsToTicks 2147483648 = 4095

/-! ## INIT -/

/-- R68, R74: INIT completes in every state; its events in order, the phases, the gating state, and its frame: it
changes no configuration and no register of a chip but mode and prescale. (The phases inside INIT, the rest of R67, are
in InitStagesMoveThePhases. The order of the pin events is the spec's D12, Log 11; the wait of R73 as an event is its D20,
Log 3; the register as first byte is its D14, Log 19; the sent registers are the shadow of Log 5.) -/
def Obligations.InitRunsTheSixSteps : Prop :=
  ∀ s : State, ∃ t : State, exec .init s = .next t ∧
    t.trace = s.trace ++ [Event.busOpen] ++
      (if s.useGate then
        [Event.pinMode .g0, Event.pinMode .g1, Event.pinWrite .g0 .high, Event.pinWrite .g1 .high] else []) ++
      [Event.busWrite s.addrA [0x00, s.params.modeSleepAllcall],
       Event.busWrite s.addrB [0x00, s.params.modeSleepAllcall],
       Event.busWrite s.addrA [0xFE, 0x79], Event.busWrite s.addrB [0xFE, 0x79],
       Event.busWrite s.addrA [0x00, s.params.modeAiAllcall],
       Event.busWrite s.addrB [0x00, s.params.modeAiAllcall],
       Event.delay s.params.tStab, Event.resp .ok 0] ∧
    100000 ≤ s.params.tStab ∧
    t.phaseA = .awake ∧ t.phaseB = .awake ∧
    (s.useGate = true → t.gateDir = true ∧ t.gateLevel0 = some .high ∧ t.gateLevel1 = some .high) ∧
    (s.useGate = false → t.gateDir = s.gateDir ∧ t.gateLevel0 = s.gateLevel0 ∧ t.gateLevel1 = s.gateLevel1) ∧
    t.addrA = s.addrA ∧ t.addrB = s.addrB ∧ t.useGate = s.useGate ∧ t.params = s.params ∧ t.port = s.port ∧
    t.refusalMark = s.refusalMark ∧
    (∀ c : Chip, sentByte t c 0x00 = some s.params.modeAiAllcall ∧ sentByte t c 0xFE = some 0x79 ∧
      ∀ reg : Byte, reg ≠ 0x00 → reg ≠ 0xFE → sentByte t c reg = sentByte s c reg)

/-- R70 to R72, R75: INIT is its six steps; at each stage chip A is written and its phase moves, and then chip B's; at
the half, chip A's phase has moved and chip B's has not. (Each BusWrite carries the register first, Log 19.) -/
def Obligations.InitStagesMoveThePhases : Prop :=
  (∀ s : State, exec .init s = .next
    ((initStabilise (initWakeChips (initSetPrescale (initSleepChips (initMutePins (initOpenBus s)))))).respond .ok 0)) ∧
  (∀ s : State, initSleepChips s = writeBothChips s 0x00 s.params.modeSleepAllcall .sleeping ∧
    initSetPrescale s = writeBothChips s 0xFE 121 .prescaleSet ∧
    initWakeChips s = writeBothChips s 0x00 s.params.modeAiAllcall .awake) ∧
  (∀ (s half : State) (reg v : Byte) (p : Phase), half = (s.memWrite .a reg [v]).setPhase .a p →
    writeBothChips s reg v p = (half.memWrite .b reg [v]).setPhase .b p ∧
    half.phaseA = p ∧ half.phaseB = s.phaseB ∧ half.trace = s.trace ++ [Event.busWrite s.addrA [reg, v]] ∧
    (writeBothChips s reg v p).phaseA = p ∧ (writeBothChips s reg v p).phaseB = p ∧
    (writeBothChips s reg v p).trace = half.trace ++ [Event.busWrite s.addrB [reg, v]])

/-- R76: a second INIT emits the same events and ends in the same state; the events of any two INITs under one
configuration are the same; with gating in use the outputs are disabled after each. -/
def Obligations.InitIsIdempotent : Prop :=
  (∀ s t : State, exec .init s = .next t →
    ∃ es : List Event, t.trace = s.trace ++ es ∧ exec .init t = .next { t with trace := t.trace ++ es }) ∧
  (∀ s t s' t' : State, exec .init s = .next t → exec .init s' = .next t' →
    s'.addrA = s.addrA → s'.addrB = s.addrB → s'.useGate = s.useGate → s'.params = s.params →
    ∃ es : List Event, t.trace = s.trace ++ es ∧ t'.trace = s'.trace ++ es) ∧
  (∀ s t : State, exec .init s = .next t → s.useGate = true → outputEnableState t = some .disabled)

/-- R51 with R8: when the two mode bytes are legal, the bytes INIT writes to the mode registers set the fields it names,
sleep and all-call response or auto-increment and all-call response, and every other bit is 0; and a step keeps the bytes
legal. (That each field is one bit is DEDUCED, Log 2; the register as first byte is the spec's D14, Log 19.) -/
def Obligations.ModeWritesSetTheNamedFieldsOnly : Prop :=
  (∀ s t : State, OpenParams.Legal s.params → exec .init s = .next t →
    ∃ (pre post : List Event) (asleep awake : Byte) (sleep allCall autoInc : Fin 8),
      t.trace = s.trace ++ pre ++
        [Event.busWrite s.addrA [0x00, asleep], Event.busWrite s.addrB [0x00, asleep],
         Event.busWrite s.addrA [0xFE, 0x79], Event.busWrite s.addrB [0xFE, 0x79],
         Event.busWrite s.addrA [0x00, awake], Event.busWrite s.addrB [0x00, awake]] ++ post ∧
      (∀ (a : BusAddr) (bytes : List Byte), Event.busWrite a bytes ∉ pre ∧ Event.busWrite a bytes ∉ post) ∧
      sleep ≠ allCall ∧ sleep ≠ autoInc ∧ allCall ≠ autoInc ∧
      (∀ n : Fin 8, asleep.getLsbD n = true ↔ n = sleep ∨ n = allCall) ∧
      (∀ n : Fin 8, awake.getLsbD n = true ↔ n = autoInc ∨ n = allCall)) ∧
  (∀ s t : State, OpenParams.Legal s.params → step s = .next t → OpenParams.Legal t.params)

/-! ## ENABLE, DISABLE and the gating machine -/

/-- R79: ENABLE, in every state: both pins low and OK, or FAIL and nothing else. (The order of the pins is D12's,
Log 11.) -/
def Obligations.EnableDrivesBothPinsLow : Prop :=
  ∀ s : State,
    (s.useGate = true → exec .enable s =
      .next { s with
        trace := s.trace ++ [Event.pinWrite .g0 .low, Event.pinWrite .g1 .low, Event.resp .ok 0],
        gateLevel0 := some .low, gateLevel1 := some .low }) ∧
    (s.useGate = false → exec .enable s = .next { s with trace := s.trace ++ [Event.resp .fail 0] })

/-- R80: DISABLE, in every state: both pins high and OK, or FAIL and nothing else. (The order of the pins is D12's,
Log 11.) -/
def Obligations.DisableDrivesBothPinsHigh : Prop :=
  ∀ s : State,
    (s.useGate = true → exec .disable s =
      .next { s with
        trace := s.trace ++ [Event.pinWrite .g0 .high, Event.pinWrite .g1 .high, Event.resp .ok 0],
        gateLevel0 := some .high, gateLevel1 := some .high }) ∧
    (s.useGate = false → exec .disable s = .next { s with trace := s.trace ++ [Event.resp .fail 0] })

/-- R81, R82: with `USE_GATE` = 0 the answer is FAIL, one event and no other effect; what ENABLE and DISABLE put out
depends on `USE_GATE` alone. -/
def Obligations.GateAnswerDependsOnUseGateAlone : Prop :=
  ∀ i : Instr, i = .enable ∨ i = .disable →
    (∀ s : State, s.useGate = false → exec i s = .next { s with trace := s.trace ++ [Event.resp .fail 0] }) ∧
    (∀ s s' : State, s.useGate = s'.useGate → ∃ (es : List Event) (t t' : State),
      exec i s = .next t ∧ exec i s' = .next t' ∧ t.trace = s.trace ++ es ∧ t'.trace = s'.trace ++ es)

/-- R82: without gating ENABLE and DISABLE answer FAIL with no pin event; with it they answer OK and drive both pins, each
to the one level of the command and never to the other: low for ENABLE, high for DISABLE. (Nothing is said of the order
of the pins.) -/
def Obligations.GateLevelsAreOpposite : Prop :=
  ∀ (s : State) (i : Instr) (l l' : Level),
    i = .enable ∧ l = .low ∧ l' = .high ∨ i = .disable ∧ l = .high ∧ l' = .low →
    ∃ (es : List Event) (t : State), exec i s = .next t ∧ t.trace = s.trace ++ es ∧
      (s.useGate = false → es = [Event.resp .fail 0]) ∧
      (s.useGate = true → Event.resp .ok 0 ∈ es ∧
        ∀ g : Pin, Event.pinWrite g l ∈ es ∧ Event.pinWrite g l' ∉ es ∧ Event.pinMode g ∉ es)

/-- R11: `USE_GATE` is the reset's parameter and stays as it is; 0 means that no pin is ever touched, 1 that INIT,
ENABLE and DISABLE touch them; no other command reads it. -/
def Obligations.UseGateIsFixedAndGuardsThePins : Prop :=
  (∀ (a b : BusAddr) (g : Bool) (p : OpenParams), (State.resetWith a b g p).useGate = g) ∧
  (∀ s t : State, step s = .next t → t.useGate = s.useGate ∧
    (s.useGate = false → ∃ es, t.trace = s.trace ++ es ∧ es.filter isPinEvent = [])) ∧
  (∀ (s t : State) (i : Instr) (g : Bool), i ≠ .init → i ≠ .enable → i ≠ .disable → exec i s = .next t →
    exec i { s with useGate := g } = .next { t with useGate := g }) ∧
  (∀ (s t : State) (i : Instr), s.useGate = true → i = .init ∨ i = .enable ∨ i = .disable → exec i s = .next t →
    ∃ es, t.trace = s.trace ++ es ∧ es.filter isPinEvent ≠ [])

/-- R83: before the first INIT, with gating in use, ENABLE and DISABLE load the latch only: OutputEnableState stays
none, and the next INIT overwrites the latch. (The spec's own choice, D11; Log 17. The
order of the two pins is its D12, Log 11.) -/
def Obligations.GateCommandsBeforeInitLoadTheLatchOnly : Prop :=
  ∀ (s t : State) (i : Instr) (l : Level), (i = .enable ∧ l = .low ∨ i = .disable ∧ l = .high) →
    s.useGate = true → s.gateDir = false → exec i s = .next t →
      t.trace = s.trace ++ [Event.pinWrite .g0 l, Event.pinWrite .g1 l, Event.resp .ok 0] ∧
      t.gateLevel0 = some l ∧ t.gateLevel1 = some l ∧ t.gateDir = false ∧ outputEnableState t = none ∧
      ∀ u : State, exec .init t = .next u → u.gateLevel0 = some .high ∧ u.gateLevel1 = some .high

/-- R84: all transitions of the gating machine, with the pin events and the status of each. (The spec marks the table
as its own inference from R78 to R83, R69 and R113; it takes in D11 and D12, Log 11 and Log 17.) -/
def Obligations.GatingTransitions : Prop :=
  (∀ (a b : BusAddr) (p : OpenParams),
    gatingState (State.resetWith a b false p) = some .absent ∧
    gatingState (State.resetWith a b true p) = some .undriven ∧
    (State.resetWith a b true p).gateLevel0 = none ∧ (State.resetWith a b true p).gateLevel1 = none ∧
    ∀ g : Bool, (State.resetWith a b g p).trace = []) ∧
  (∀ (s t : State) (g : Gating), gatingState s = some g → exec .init s = .next t →
    gatingState t = some (if g = .absent then .absent else .disabled) ∧
    ∃ es, t.trace = s.trace ++ es ++ [Event.resp .ok 0] ∧
      es.filter isPinEvent = if g = .absent then [] else
        [Event.pinMode .g0, Event.pinMode .g1, Event.pinWrite .g0 .high, Event.pinWrite .g1 .high]) ∧
  (∀ (s t : State) (g : Gating) (i : Instr) (l : Level) (g' : Gating), gatingState s = some g →
    (i = .enable ∧ l = .low ∧ g' = .enabled ∨ i = .disable ∧ l = .high ∧ g' = .disabled) →
    exec i s = .next t →
    (g = .absent → gatingState t = some .absent ∧ t.trace = s.trace ++ [Event.resp .fail 0]) ∧
    (g = .undriven → gatingState t = some .undriven ∧ t.gateLevel0 = some l ∧ t.gateLevel1 = some l) ∧
    (g = .disabled ∨ g = .enabled → gatingState t = some g') ∧
    (g ≠ .absent → t.trace = s.trace ++ [Event.pinWrite .g0 l, Event.pinWrite .g1 l, Event.resp .ok 0])) ∧
  (∀ (s t : State) (i : Instr), i ≠ .init → i ≠ .enable → i ≠ .disable → exec i s = .next t →
    gatingState t = gatingState s ∧ t.gateLevel0 = s.gateLevel0 ∧ t.gateLevel1 = s.gateLevel1 ∧
    ∃ es, t.trace = s.trace ++ es ∧ es.filter isPinEvent = [])

/-- R15: OutputEnableState as a function of the state. -/
def Obligations.OutputEnableStateIsDerived : Prop :=
  ∀ s : State,
    (s.useGate = false → outputEnableState s = none) ∧
    (s.useGate = true → s.gateDir = false → outputEnableState s = none) ∧
    (s.useGate = true → s.gateDir = true →
      (outputEnableState s = some .enabled ↔ s.gateLevel0 = some .low ∧ s.gateLevel1 = some .low) ∧
      (outputEnableState s = some .disabled ↔ s.gateLevel0 = some .high ∧ s.gateLevel1 = some .high))

/-- R85, R117, R121: no command but ENABLE un-mutes the outputs. -/
def Obligations.OnlyEnableEnablesTheOutputs : Prop :=
  ∀ (i : Instr) (s t : State), i ≠ .enable → exec i s = .next t →
    outputEnableState t = some .enabled → outputEnableState s = some .enabled

/-- R85: ENABLE and DISABLE neither read nor write the phases; SETPULSE neither reads nor writes the gating state. -/
def Obligations.GatingAndPhaseAreIndependent : Prop :=
  (∀ (s t : State) (i : Instr) (p q : Phase), i = .enable ∨ i = .disable → exec i s = .next t →
    t.phaseA = s.phaseA ∧ t.phaseB = s.phaseB ∧
    exec i { s with phaseA := p, phaseB := q } = .next { t with phaseA := p, phaseB := q }) ∧
  (∀ (s t : State) (ch : Channel) (us : Micros) (g d : Bool) (l0 l1 : Option Level),
    exec (.setpulse ch us) s = .next t →
    exec (.setpulse ch us) { s with useGate := g, gateDir := d, gateLevel0 := l0, gateLevel1 := l1 } =
      .next { t with useGate := g, gateDir := d, gateLevel0 := l0, gateLevel1 := l1 })

/-! ## SETPULSE -/

/-- R87, R88: SETPULSE, for every channel and every `us`: one transaction `[BASE + 2, lo, hi]` to the owning chip when
that chip is Awake, the fault when it is not; nothing else of the state changes but the shadow of that chip.
(The wire form is the spec's D14, Log 19; the fault is its D10, Log 9.) -/
def Obligations.SetpulseWritesTheOffBytes : Prop :=
  ∀ (ch : Channel) (us : Micros) (s : State) (reg lo hi : Byte),
    reg = BitVec.ofNat 8 (0x08 + 4 * (ch.toNat % 16) + 2) →
    lo = BitVec.ofNat 8 (min (us.toNat * 100 / 488) 4095 % 256) →
    hi = BitVec.ofNat 8 (min (us.toNat * 100 / 488) 4095 / 256) →
    (ch.toNat < 16 → s.phaseA = .awake → exec (.setpulse ch us) s =
      .next { s with trace := s.trace ++ [Event.busWrite s.addrA [reg, lo, hi], Event.resp .ok 0],
                     chipA := Memory.writeBytes s.chipA reg [lo, hi] }) ∧
    (16 ≤ ch.toNat → s.phaseB = .awake → exec (.setpulse ch us) s =
      .next { s with trace := s.trace ++ [Event.busWrite s.addrB [reg, lo, hi], Event.resp .ok 0],
                     chipB := Memory.writeBytes s.chipB reg [lo, hi] }) ∧
    (ch.toNat < 16 → s.phaseA ≠ .awake → exec (.setpulse ch us) s = .fault (.useBeforeInit .a)) ∧
    (16 ≤ ch.toNat → s.phaseB ≠ .awake → exec (.setpulse ch us) s = .fault (.useBeforeInit .b))

/-- R92: SETPULSE with the owning chip not Awake faults with the chip's name, and every longer run stops with that same
fault. (The source calls the case undefined; the fault is the spec's own choice for a model, D10, Log 9.) -/
def Obligations.SetpulseBeforeInitFaults : Prop :=
  ∀ (ch : Channel) (us : Micros) (s : State), s.phase (chipOf ch) ≠ .awake →
    exec (.setpulse ch us) s = .fault (.useBeforeInit (chipOf ch)) ∧
    ∀ (w : CmdWord) (rest : List CmdWord) (k : Nat), s.port = w :: rest → decode w = .ok (.setpulse ch us) →
      Host.Core.run core (k + 1) s = .fault (.useBeforeInit (chipOf ch))

/-- R88, R89, R93: the frame of SETPULSE, read byte by byte: of what was sent, only the two off bytes of the
channel's block of the owning chip change, and they are the low and the high byte of the tick count. (Said of the
shadow of what was sent, R22 with D28, Log 5.) -/
def Obligations.SetpulseFrame : Prop :=
  ∀ (ch : Channel) (us : Micros) (s t : State), exec (.setpulse ch us) s = .next t →
    t.addrA = s.addrA ∧ t.addrB = s.addrB ∧ t.useGate = s.useGate ∧ t.phaseA = s.phaseA ∧ t.phaseB = s.phaseB ∧
    t.gateDir = s.gateDir ∧ t.gateLevel0 = s.gateLevel0 ∧ t.gateLevel1 = s.gateLevel1 ∧
    t.port = s.port ∧ t.params = s.params ∧ t.refusalMark = s.refusalMark ∧
    sentByte t (lookup ch).cs ((lookup ch).base + 2) = some (BitVec.ofNat 8 (microsecondsToTicks us).toNat) ∧
    sentByte t (lookup ch).cs ((lookup ch).base + 3) =
      some (BitVec.ofNat 8 ((microsecondsToTicks us).toNat / 256)) ∧
    (∀ (c : Chip) (reg : Byte),
      ¬ (c = (lookup ch).cs ∧ (reg = (lookup ch).base + 2 ∨ reg = (lookup ch).base + 3)) →
      sentByte t c reg = sentByte s c reg)

/-- R90: the high byte of a pulse write carries bits 11:8 of the tick count in its low nibble, zeros above. (That the
pulse is one transaction of three bytes, the register first, is the spec's D14, Log 19.) -/
def Obligations.PulseHighByteFitsTheLowNibble : Prop :=
  ∀ (ch : Channel) (us : Micros) (s t : State), exec (.setpulse ch us) s = .next t →
    ∃ (a : BusAddr) (reg lo hi : Byte),
      t.trace = s.trace ++ [Event.busWrite a [reg, lo, hi], Event.resp .ok 0] ∧
      hi.toNat ≤ 15 ∧ hi.extractLsb' 4 4 = 0 ∧
      hi.extractLsb' 0 4 = (microsecondsToTicks us).extractLsb' 8 4 ∧ hi.getLsbD 4 = false

/-- R93: channels are independent; the tick count last sent for another channel is as before, and that of the channel
itself is the converted one. (Said of the shadow of what was sent, R22 with D28, Log 5.) -/
def Obligations.ChannelsAreIndependent : Prop :=
  ∀ (ch : Channel) (us : Micros) (s t : State), exec (.setpulse ch us) s = .next t →
    sentTicks t ch = some (microsecondsToTicks us) ∧
    ∀ ch' : Channel, ch' ≠ ch → sentTicks t ch' = sentTicks s ch'

/-- R78, R109, as the spec describes the chips (DEDUCED, Log 18): after SETPULSE with a tick count that is not 0 the
channel is on exactly at the ticks below the count when the pins are low or gating is not in use, and off at every tick
when the pins are high. The model gives no answer at a count of 0 (N10) or while gating is in use and the pads are not
driven. (With `USE_GATE` = 0, N5, and at a count of 4095, N10, the answer is the model's choice, Log 18.) The claim takes
"every transaction was delivered" as its premise, and there is no answer without it (R126, Log 13). -/
def Obligations.OutputFollowsThePulse : Prop :=
  ∀ (ch : Channel) (us : Micros) (s t : State), exec (.setpulse ch us) s = .next t →
    ∀ (d : Delivery) (k : Ticks),
      (everyDelivered d t.trace = true →
        (microsecondsToTicks us ≠ 0 → s.useGate = false ∨ outputEnableState s = some .enabled →
          outputAt d t ch k = some (decide (k.toNat < (microsecondsToTicks us).toNat))) ∧
        (microsecondsToTicks us ≠ 0 → outputEnableState s = some .disabled → outputAt d t ch k = some false) ∧
        (microsecondsToTicks us ≠ 0 → s.useGate = true → outputEnableState s = none → outputAt d t ch k = none) ∧
        (microsecondsToTicks us = 0 → outputAt d t ch k = none)) ∧
      (everyDelivered d t.trace = false → outputAt d t ch k = none)

/-- R126 with R22: when every transaction was delivered and the bus addresses differ, each chip received in every
register exactly what the block last sent to it. (The shadow is Log 5, the delivery Log 13, equal addresses Log 15.) -/
def Obligations.DeliveredTransactionsMakeTheShadowTrue : Prop :=
  ∀ (d : Delivery) (s : State), TraceFoldInv s → s.addrA ≠ s.addrB → everyDelivered d s.trace = true →
    ∀ (c : Chip) (reg : Byte), receivedByte d s c reg = sentByte s c reg

/-- R126: SETPULSE answers `OK` and finds its chip Awake, whatever was delivered; with every transaction delivered the
chip received the two bytes of the count, and when this one was lost neither chip received anything from it. (The
delivery, and that a transaction is lost whole, is Log 13; the register as first byte is the spec's D14, Log 19.) -/
def Obligations.LostTransactionsAreSilent : Prop :=
  ∀ (ch : Channel) (us : Micros) (s t : State), exec (.setpulse ch us) s = .next t →
    t.phase (chipOf ch) = .awake ∧ (∃ e, t.trace = s.trace ++ [e, Event.resp .ok 0]) ∧
    ∀ d : Delivery,
      (everyDelivered d t.trace = true →
        receivedByte d t (chipOf ch) (baseOf ch + 2) = some (BitVec.ofNat 8 (microsecondsToTicks us).toNat) ∧
        receivedByte d t (chipOf ch) (baseOf ch + 3) =
          some (BitVec.ofNat 8 ((microsecondsToTicks us).toNat / 256))) ∧
      (d s.trace.length = false →
        ∀ (c : Chip) (reg : Byte), receivedByte d t c reg = receivedByte d s c reg)

/-! ## The bus -/

/-- R29, R49: every transaction a command emits is one of those of the table, addressed to `ADDR_A` or `ADDR_B`; only
INIT and SETPULSE emit any (R26). (The register as first byte is R25's D14, Log 19.) -/
def Obligations.EveryTransactionIsOfTheTable : Prop :=
  ∀ (i : Instr) (s t : State), exec i s = .next t → ∃ es : List Event, t.trace = s.trace ++ es ∧
    ∀ (addr : BusAddr) (bytes : List Byte), Event.busWrite addr bytes ∈ es →
      (i = .init ∧ (addr = s.addrA ∨ addr = s.addrB) ∧
        (bytes = [0x00, s.params.modeSleepAllcall] ∨ bytes = [0xFE, 0x79] ∨
          bytes = [0x00, s.params.modeAiAllcall])) ∨
      (∃ ch us, i = .setpulse ch us ∧ addr = (if ch.toNat ≤ 15 then s.addrA else s.addrB) ∧
        bytes = [BitVec.ofNat 8 (0x08 + 4 * (ch.toNat % 16) + 2),
          BitVec.ofNat 8 (microsecondsToTicks us).toNat,
          BitVec.ofNat 8 ((microsecondsToTicks us).toNat / 256)])

/-- R31, R89: no command changes a register but mode, prescale and the off bytes; no transaction writes the on bytes of
any channel, and what they were sent stays as it was. (A transaction as a register and then consecutive bytes is the spec's
D14, Log 19; the shadow is Log 5.) -/
def Obligations.OnBytesAreNeverWritten : Prop :=
  ∀ (i : Instr) (s t : State), exec i s = .next t →
    (∀ ch : Channel, sentByte t (chipOf ch) (baseOf ch) = sentByte s (chipOf ch) (baseOf ch) ∧
      sentByte t (chipOf ch) (baseOf ch + 1) = sentByte s (chipOf ch) (baseOf ch + 1)) ∧
    (∀ (c : Chip) (reg : Byte), sentByte t c reg ≠ sentByte s c reg →
      reg = 0x00 ∨ reg = 0xFE ∨ ∃ ch, chipOf ch = c ∧ (reg = baseOf ch + 2 ∨ reg = baseOf ch + 3)) ∧
    ∃ es : List Event, t.trace = s.trace ++ es ∧
      ∀ (addr : BusAddr) (reg : Byte) (data : List Byte), Event.busWrite addr (reg :: data) ∈ es →
        ∀ (k : Nat) (ch : Channel), k < data.length →
          reg + BitVec.ofNat 8 k ≠ baseOf ch ∧ reg + BitVec.ofNat 8 k ≠ baseOf ch + 1

/-- R12: no emitted event ever depends on the phases. -/
def Obligations.PhaseNeverReachesTheTrace : Prop :=
  ∀ (i : Instr) (s t u : State) (p q : Phase), exec i s = .next t →
    exec i { s with phaseA := p, phaseB := q } = .next u → u.trace = t.trace

/-! ## Whole-machine rules -/

/-- R9, R10, R11: the configuration is written by reset alone; no step changes it, nor the open parameters of R8. -/
def Obligations.ConfigurationIsFixed : Prop :=
  ∀ s t : State, step s = .next t →
    t.addrA = s.addrA ∧ t.addrB = s.addrB ∧ t.useGate = s.useGate ∧ t.params = s.params

/-- R12, R13, R75: INIT is the only writer of the phases and of `GATE_DIR`, leaves both chips Awake, and nothing clears
`GATE_DIR`. -/
def Obligations.OnlyInitMovesPhasesAndGateDir : Prop :=
  ∀ s t : State, step s = .next t →
    (s.gateDir = true → t.gateDir = true) ∧
    ((t.phaseA = s.phaseA ∧ t.phaseB = s.phaseB ∧ t.gateDir = s.gateDir) ∨
     (∃ w rest, s.port = w :: rest ∧ decode w = .ok .init ∧ t.phaseA = .awake ∧ t.phaseB = .awake))

/-! ## Invariants that every step keeps -/

/-- R23 (i) to (iv). -/
def Obligations.StepKeepsTheBlockInvariants : Prop :=
  ∀ s t : State, BlockInv s → step s = .next t → BlockInv t

/-- R20, R22: the shadow keeps its canonical form. (That each shadow is a list of strictly rising addresses is the
model's choice, Log 5.) -/
def Obligations.StepKeepsTheMemoryCanonical : Prop :=
  ∀ s t : State, MemoryInv s → step s = .next t → MemoryInv t

/-- R22, R31, R90: what the shadow of the chips holds. (The shadow is D28's, Log 5.) -/
def Obligations.StepKeepsTheShadowInvariant : Prop :=
  ∀ s t : State, ShadowInv s → step s = .next t → ShadowInv t

/-- R22: with two different bus addresses the shadow stays the fold of the trace. (The shadow is D28's, Log 5;
equal addresses are Log 15.) -/
def Obligations.StepKeepsTheShadowATraceFold : Prop :=
  ∀ s t : State, TraceFoldInv s → step s = .next t → TraceFoldInv t

/-- R13, R14, R83, R125: the pads the trace tells of stay those of the gating registers. (That a pad has any value
between its `PinMode` and its `PinWrite` is the spec's D13, Log 10; that it is undriven until INIT is its D11, Log 17.) -/
def Obligations.StepKeepsThePadsInAgreement : Prop :=
  ∀ s t : State, PadInv s → step s = .next t → PadInv t

/-- R119: the prescale register of a chip is written only while the byte last sent to its mode register is the sleep
byte, and only with 121. (The register as first byte of a transaction is the spec's D14, Log 19.) -/
def Obligations.StepKeepsPrescaleOnlyAsleep : Prop :=
  ∀ s t : State, PrescaleInv s → step s = .next t → PrescaleInv t

/-- R34, R73, R120: every access of a later command comes at least 100 ms after the last register write of INIT.
(That the wait is a `Delay` event of at least 100000 microseconds is the spec's D20, Log 3; that a pulse is told by its
three bytes is its D14, Log 19.) -/
def Obligations.StepKeepsTheWaitBeforeLaterAccess : Prop :=
  ∀ s t : State, SettledInv s → step s = .next t → SettledInv t

/-- R39, D23: every transaction comes after a `BusOpen`, and a phase other than Uninit tells of one. -/
def Obligations.StepKeepsTheBusOpenedFirst : Prop :=
  ∀ s t : State, OpenedInv s → step s = .next t → OpenedInv t

/-! ## Reset -/

/-- R113, R114, R115: the state after `RESET a, b, g`, for every value of the parameters. (The spec marks the phases,
`GATE_DIR` and the trace as its own inference in R114; the latches without a value are its D13, Log 4; the empty shadow,
the empty port and the cleared mark are the model's choice, Log 5, Log 7 and Log 8.) -/
def Obligations.ResetPerformsNoIO : Prop :=
  ∀ (a b : BusAddr) (g : Bool) (p : OpenParams) (s : State), s = State.resetWith a b g p →
    s.addrA = a ∧ s.addrB = b ∧ s.useGate = g ∧ s.phaseA = .uninit ∧ s.phaseB = .uninit ∧
    s.gateDir = false ∧ s.gateLevel0 = none ∧ s.gateLevel1 = none ∧ s.trace = [] ∧
    (∀ (c : Chip) (reg : Byte), sentByte s c reg = none) ∧ outputEnableState s = none ∧
    (∀ pin : Pin, padLevel s pin = none) ∧ s.params = p ∧ s.port = [] ∧ s.refusalMark = false

/-- The invariants hold after every reset. (They take in the choices the step statements above name: Log 3, Log 5, Log 10,
Log 15, Log 17 and Log 19; the latches without a value are Log 4.) -/
def Obligations.ResetMeetsTheInvariants : Prop :=
  ∀ (a b : BusAddr) (g : Bool) (p : OpenParams),
    BlockInv (State.resetWith a b g p) ∧ MemoryInv (State.resetWith a b g p) ∧
    ShadowInv (State.resetWith a b g p) ∧ TraceFoldInv (State.resetWith a b g p) ∧
    PadInv (State.resetWith a b g p) ∧ PrescaleInv (State.resetWith a b g p) ∧
    SettledInv (State.resetWith a b g p) ∧ OpenedInv (State.resetWith a b g p)

/-- The reset of the model's own board: the model's choice, Log 1, Log 2 and Log 3 (the preset "no jumpers set" of R7,
gating in use, the mode bytes R51 suggests, which meet R8's constraint). -/
def Obligations.ResetOfTheChosenBoard : Prop :=
  State.reset = State.resetWith 0x40 0x60 true
    { modeSleepAllcall := 0x11, modeAiAllcall := 0x21, tStabExtra := 0 } ∧
  OpenParams.Legal State.reset.params

/-- R6, R71, R108: the nominal period is 20000 microseconds, 50 Hz, for which the prescale formula gives 121; at 121 a tick is 4.88 microseconds and a period 19988.48
microseconds at the nominal oscillator. -/
def Obligations.PrescaleArithmetic : Prop :=
  periodUs = 20000 ∧ outputRateHz = 50 ∧ prescaleFor outputRateHz = 121 ∧ tickNs 121 = 4880 ∧
  periodNs 121 = 19988480
end

