-- ==== Sys2Proof/Laws/Chips.lean ====
section
/-! SUPPORT. The laws of what the chips received: one more event at the end of a trace, and a trace in two parts
(70_reset_and_hazards.md R126). -/

namespace Sys2Proof.Laws

open Sys2Proof.Machine

@[simp] theorem receivedFrom_nil (d : Delivery) (a : BusAddr) (n : Nat) (m : Memory) :
    receivedFrom d a n m [] = m := rfl

@[simp] theorem everyDeliveredFrom_nil (d : Delivery) (n : Nat) : everyDeliveredFrom d n [] = true := rfl

/-- What arrives after the first part of a trace starts from what the first part left. -/
theorem receivedFrom_append (d : Delivery) (a : BusAddr) (n : Nat) (m : Memory) (t u : List Event) :
    receivedFrom d a n m (t ++ u) = receivedFrom d a (n + t.length) (receivedFrom d a n m t) u := by
  induction t generalizing n m with
  | nil => simp
  | cons e rest ih => simp [receivedFrom, ih, Nat.add_assoc, Nat.add_comm 1]

/-- Every transaction of a trace was delivered exactly when every one of both parts was. -/
theorem everyDeliveredFrom_append (d : Delivery) (n : Nat) (t u : List Event) :
    everyDeliveredFrom d n (t ++ u) = (everyDeliveredFrom d n t && everyDeliveredFrom d (n + t.length) u) := by
  induction t generalizing n with
  | nil => simp
  | cons e rest ih => simp [everyDeliveredFrom, ih, Nat.add_assoc, Nat.add_comm 1, Bool.and_assoc]

/-- An event that is no transaction reaches no chip. -/
theorem receive_of_not_busWrite (a : BusAddr) (m : Memory) (e : Event) (h : isBusWrite e = false) :
    receive a m e = m := by
  cases e <;> first | rfl | exact nomatch h

end Sys2Proof.Laws
end

