-- ==== Sys2Proof/Laws/Memory.lean ====
section
/-! SUPPORT. The laws of a chip's shadow: a read after a write, a write leaves every other register alone, every
operation keeps the canonical form (10_state.md R22). -/

namespace Sys2Proof.Laws

open Sys2Proof.Machine

@[simp] theorem read_nil (a : Nat) : Memory.read [] a = none := rfl

@[simp] theorem read_write_same (m : Memory) (a : Nat) (b : Byte) :
    Memory.read (Memory.write m a b) a = some b := by
  induction m with
  | nil => simp [Memory.write, Memory.read]
  | cons c rest ih =>
    obtain ⟨x, v⟩ := c
    by_cases hlt : a < x
    · simp [Memory.write, Memory.read, hlt]
    · by_cases heq : a = x
      · simp [Memory.write, Memory.read, heq]
      · simp [Memory.write, Memory.read, hlt, heq, Ne.symm heq, ih]

@[simp] theorem read_write_other (m : Memory) (a a' : Nat) (b : Byte) (h : a' ≠ a) :
    Memory.read (Memory.write m a b) a' = Memory.read m a' := by
  induction m with
  | nil => simp [Memory.write, Memory.read, Ne.symm h]
  | cons c rest ih =>
    obtain ⟨x, v⟩ := c
    by_cases hlt : a < x
    · simp [Memory.write, Memory.read, hlt, Ne.symm h]
    · by_cases heq : a = x
      · subst heq
        simp [Memory.write, Memory.read, Ne.symm h]
      · simp [Memory.write, Memory.read, hlt, heq, ih]

theorem write_wfFrom (m : Memory) (lo a : Nat) (b : Byte) (hm : Memory.wfFrom lo m = true)
    (hlo : lo ≤ a) (ha : a < 256) : Memory.wfFrom lo (Memory.write m a b) = true := by
  induction m generalizing lo with
  | nil => simp [Memory.write, Memory.wfFrom, hlo, ha]
  | cons c rest ih =>
    obtain ⟨x, v⟩ := c
    simp only [Memory.wfFrom, Bool.and_eq_true, decide_eq_true_eq] at hm
    by_cases hlt : a < x
    · have : a + 1 ≤ x := hlt
      simp [Memory.write, Memory.wfFrom, hlt, hlo, ha, hm, this]
    · by_cases heq : a = x
      · subst heq
        simp [Memory.write, Memory.wfFrom, hm]
      · simp only [Memory.write, hlt, heq, if_false, Memory.wfFrom, Bool.and_eq_true, decide_eq_true_eq]
        exact ⟨hm.1, ih (x + 1) hm.2 (by omega)⟩

/-- Writing one register keeps the canonical form. -/
theorem write_wf (m : Memory) (a : Nat) (b : Byte) (hm : Memory.wf m = true) (ha : a < 256) :
    Memory.wf (Memory.write m a b) = true :=
  write_wfFrom m 0 a b hm (Nat.zero_le a) ha

/-- The bytes of a transaction keep the canonical form. -/
theorem writeBytes_wf (m : Memory) (reg : Byte) (v : List Byte) (hm : Memory.wf m = true) :
    Memory.wf (Memory.writeBytes m reg v) = true := by
  induction v generalizing m reg with
  | nil => exact hm
  | cons b rest ih => exact ih _ _ (write_wf m _ b hm reg.isLt)

@[simp] theorem writeBytes_nil (m : Memory) (reg : Byte) : Memory.writeBytes m reg [] = m := rfl

@[simp] theorem writeBytes_cons (m : Memory) (reg b : Byte) (rest : List Byte) :
    Memory.writeBytes m reg (b :: rest) = Memory.writeBytes (Memory.write m reg.toNat b) (reg + 1) rest := rfl

/-- A second write to the same register replaces the first. -/
theorem write_write_same (m : Memory) (a : Nat) (b b' : Byte) :
    Memory.write (Memory.write m a b) a b' = Memory.write m a b' := by
  induction m with
  | nil => simp [Memory.write]
  | cons c rest ih =>
    obtain ⟨x, v⟩ := c
    by_cases hlt : a < x
    · simp [Memory.write, hlt]
    · by_cases heq : a = x
      · simp [Memory.write, heq]
      · simp [Memory.write, hlt, heq, ih]

end Sys2Proof.Laws
end

