-- ==== Sys2Proof/Laws/State.lean ====
section
/-! SUPPORT. One lemma per field per update of the state, so that no later proof unfolds a record update; then the views
by chip and by pin. -/

namespace Sys2Proof.Laws

open Sys2Proof.Machine

/-! ### s.emit e -/

@[simp] theorem emit_addrA (s : State) (e : Event) : (s.emit e).addrA = s.addrA := rfl
@[simp] theorem emit_addrB (s : State) (e : Event) : (s.emit e).addrB = s.addrB := rfl
@[simp] theorem emit_useGate (s : State) (e : Event) : (s.emit e).useGate = s.useGate := rfl
@[simp] theorem emit_phaseA (s : State) (e : Event) : (s.emit e).phaseA = s.phaseA := rfl
@[simp] theorem emit_phaseB (s : State) (e : Event) : (s.emit e).phaseB = s.phaseB := rfl
@[simp] theorem emit_gateDir (s : State) (e : Event) : (s.emit e).gateDir = s.gateDir := rfl
@[simp] theorem emit_gateLevel0 (s : State) (e : Event) : (s.emit e).gateLevel0 = s.gateLevel0 := rfl
@[simp] theorem emit_gateLevel1 (s : State) (e : Event) : (s.emit e).gateLevel1 = s.gateLevel1 := rfl
@[simp] theorem emit_trace (s : State) (e : Event) : (s.emit e).trace = s.trace ++ [e] := rfl
@[simp] theorem emit_chipA (s : State) (e : Event) : (s.emit e).chipA = s.chipA := rfl
@[simp] theorem emit_chipB (s : State) (e : Event) : (s.emit e).chipB = s.chipB := rfl
@[simp] theorem emit_port (s : State) (e : Event) : (s.emit e).port = s.port := rfl
@[simp] theorem emit_params (s : State) (e : Event) : (s.emit e).params = s.params := rfl
@[simp] theorem emit_refusalMark (s : State) (e : Event) : (s.emit e).refusalMark = s.refusalMark := rfl

/-! ### s.setPhase .a p -/

@[simp] theorem setPhase_a_addrA (s : State) (p : Phase) : (s.setPhase .a p).addrA = s.addrA := rfl
@[simp] theorem setPhase_a_addrB (s : State) (p : Phase) : (s.setPhase .a p).addrB = s.addrB := rfl
@[simp] theorem setPhase_a_useGate (s : State) (p : Phase) : (s.setPhase .a p).useGate = s.useGate := rfl
@[simp] theorem setPhase_a_phaseA (s : State) (p : Phase) : (s.setPhase .a p).phaseA = p := rfl
@[simp] theorem setPhase_a_phaseB (s : State) (p : Phase) : (s.setPhase .a p).phaseB = s.phaseB := rfl
@[simp] theorem setPhase_a_gateDir (s : State) (p : Phase) : (s.setPhase .a p).gateDir = s.gateDir := rfl
@[simp] theorem setPhase_a_gateLevel0 (s : State) (p : Phase) : (s.setPhase .a p).gateLevel0 = s.gateLevel0 := rfl
@[simp] theorem setPhase_a_gateLevel1 (s : State) (p : Phase) : (s.setPhase .a p).gateLevel1 = s.gateLevel1 := rfl
@[simp] theorem setPhase_a_trace (s : State) (p : Phase) : (s.setPhase .a p).trace = s.trace := rfl
@[simp] theorem setPhase_a_chipA (s : State) (p : Phase) : (s.setPhase .a p).chipA = s.chipA := rfl
@[simp] theorem setPhase_a_chipB (s : State) (p : Phase) : (s.setPhase .a p).chipB = s.chipB := rfl
@[simp] theorem setPhase_a_port (s : State) (p : Phase) : (s.setPhase .a p).port = s.port := rfl
@[simp] theorem setPhase_a_params (s : State) (p : Phase) : (s.setPhase .a p).params = s.params := rfl
@[simp] theorem setPhase_a_refusalMark (s : State) (p : Phase) : (s.setPhase .a p).refusalMark = s.refusalMark := rfl

/-! ### s.setPhase .b p -/

@[simp] theorem setPhase_b_addrA (s : State) (p : Phase) : (s.setPhase .b p).addrA = s.addrA := rfl
@[simp] theorem setPhase_b_addrB (s : State) (p : Phase) : (s.setPhase .b p).addrB = s.addrB := rfl
@[simp] theorem setPhase_b_useGate (s : State) (p : Phase) : (s.setPhase .b p).useGate = s.useGate := rfl
@[simp] theorem setPhase_b_phaseA (s : State) (p : Phase) : (s.setPhase .b p).phaseA = s.phaseA := rfl
@[simp] theorem setPhase_b_phaseB (s : State) (p : Phase) : (s.setPhase .b p).phaseB = p := rfl
@[simp] theorem setPhase_b_gateDir (s : State) (p : Phase) : (s.setPhase .b p).gateDir = s.gateDir := rfl
@[simp] theorem setPhase_b_gateLevel0 (s : State) (p : Phase) : (s.setPhase .b p).gateLevel0 = s.gateLevel0 := rfl
@[simp] theorem setPhase_b_gateLevel1 (s : State) (p : Phase) : (s.setPhase .b p).gateLevel1 = s.gateLevel1 := rfl
@[simp] theorem setPhase_b_trace (s : State) (p : Phase) : (s.setPhase .b p).trace = s.trace := rfl
@[simp] theorem setPhase_b_chipA (s : State) (p : Phase) : (s.setPhase .b p).chipA = s.chipA := rfl
@[simp] theorem setPhase_b_chipB (s : State) (p : Phase) : (s.setPhase .b p).chipB = s.chipB := rfl
@[simp] theorem setPhase_b_port (s : State) (p : Phase) : (s.setPhase .b p).port = s.port := rfl
@[simp] theorem setPhase_b_params (s : State) (p : Phase) : (s.setPhase .b p).params = s.params := rfl
@[simp] theorem setPhase_b_refusalMark (s : State) (p : Phase) : (s.setPhase .b p).refusalMark = s.refusalMark := rfl

/-! ### s.storeChip .a r v -/

@[simp] theorem storeChip_a_addrA (s : State) (r : Byte) (v : List Byte) : (s.storeChip .a r v).addrA = s.addrA := rfl
@[simp] theorem storeChip_a_addrB (s : State) (r : Byte) (v : List Byte) : (s.storeChip .a r v).addrB = s.addrB := rfl
@[simp] theorem storeChip_a_useGate (s : State) (r : Byte) (v : List Byte) : (s.storeChip .a r v).useGate = s.useGate := rfl
@[simp] theorem storeChip_a_phaseA (s : State) (r : Byte) (v : List Byte) : (s.storeChip .a r v).phaseA = s.phaseA := rfl
@[simp] theorem storeChip_a_phaseB (s : State) (r : Byte) (v : List Byte) : (s.storeChip .a r v).phaseB = s.phaseB := rfl
@[simp] theorem storeChip_a_gateDir (s : State) (r : Byte) (v : List Byte) : (s.storeChip .a r v).gateDir = s.gateDir := rfl
@[simp] theorem storeChip_a_gateLevel0 (s : State) (r : Byte) (v : List Byte) : (s.storeChip .a r v).gateLevel0 = s.gateLevel0 := rfl
@[simp] theorem storeChip_a_gateLevel1 (s : State) (r : Byte) (v : List Byte) : (s.storeChip .a r v).gateLevel1 = s.gateLevel1 := rfl
@[simp] theorem storeChip_a_trace (s : State) (r : Byte) (v : List Byte) : (s.storeChip .a r v).trace = s.trace := rfl
@[simp] theorem storeChip_a_chipA (s : State) (r : Byte) (v : List Byte) : (s.storeChip .a r v).chipA = Memory.writeBytes s.chipA r v := rfl
@[simp] theorem storeChip_a_chipB (s : State) (r : Byte) (v : List Byte) : (s.storeChip .a r v).chipB = s.chipB := rfl
@[simp] theorem storeChip_a_port (s : State) (r : Byte) (v : List Byte) : (s.storeChip .a r v).port = s.port := rfl
@[simp] theorem storeChip_a_params (s : State) (r : Byte) (v : List Byte) : (s.storeChip .a r v).params = s.params := rfl
@[simp] theorem storeChip_a_refusalMark (s : State) (r : Byte) (v : List Byte) : (s.storeChip .a r v).refusalMark = s.refusalMark := rfl

/-! ### s.storeChip .b r v -/

@[simp] theorem storeChip_b_addrA (s : State) (r : Byte) (v : List Byte) : (s.storeChip .b r v).addrA = s.addrA := rfl
@[simp] theorem storeChip_b_addrB (s : State) (r : Byte) (v : List Byte) : (s.storeChip .b r v).addrB = s.addrB := rfl
@[simp] theorem storeChip_b_useGate (s : State) (r : Byte) (v : List Byte) : (s.storeChip .b r v).useGate = s.useGate := rfl
@[simp] theorem storeChip_b_phaseA (s : State) (r : Byte) (v : List Byte) : (s.storeChip .b r v).phaseA = s.phaseA := rfl
@[simp] theorem storeChip_b_phaseB (s : State) (r : Byte) (v : List Byte) : (s.storeChip .b r v).phaseB = s.phaseB := rfl
@[simp] theorem storeChip_b_gateDir (s : State) (r : Byte) (v : List Byte) : (s.storeChip .b r v).gateDir = s.gateDir := rfl
@[simp] theorem storeChip_b_gateLevel0 (s : State) (r : Byte) (v : List Byte) : (s.storeChip .b r v).gateLevel0 = s.gateLevel0 := rfl
@[simp] theorem storeChip_b_gateLevel1 (s : State) (r : Byte) (v : List Byte) : (s.storeChip .b r v).gateLevel1 = s.gateLevel1 := rfl
@[simp] theorem storeChip_b_trace (s : State) (r : Byte) (v : List Byte) : (s.storeChip .b r v).trace = s.trace := rfl
@[simp] theorem storeChip_b_chipA (s : State) (r : Byte) (v : List Byte) : (s.storeChip .b r v).chipA = s.chipA := rfl
@[simp] theorem storeChip_b_chipB (s : State) (r : Byte) (v : List Byte) : (s.storeChip .b r v).chipB = Memory.writeBytes s.chipB r v := rfl
@[simp] theorem storeChip_b_port (s : State) (r : Byte) (v : List Byte) : (s.storeChip .b r v).port = s.port := rfl
@[simp] theorem storeChip_b_params (s : State) (r : Byte) (v : List Byte) : (s.storeChip .b r v).params = s.params := rfl
@[simp] theorem storeChip_b_refusalMark (s : State) (r : Byte) (v : List Byte) : (s.storeChip .b r v).refusalMark = s.refusalMark := rfl

/-! ### s.setGateDir -/

@[simp] theorem setGateDir_addrA (s : State) : (s.setGateDir).addrA = s.addrA := rfl
@[simp] theorem setGateDir_addrB (s : State) : (s.setGateDir).addrB = s.addrB := rfl
@[simp] theorem setGateDir_useGate (s : State) : (s.setGateDir).useGate = s.useGate := rfl
@[simp] theorem setGateDir_phaseA (s : State) : (s.setGateDir).phaseA = s.phaseA := rfl
@[simp] theorem setGateDir_phaseB (s : State) : (s.setGateDir).phaseB = s.phaseB := rfl
@[simp] theorem setGateDir_gateDir (s : State) : (s.setGateDir).gateDir = true := rfl
@[simp] theorem setGateDir_gateLevel0 (s : State) : (s.setGateDir).gateLevel0 = s.gateLevel0 := rfl
@[simp] theorem setGateDir_gateLevel1 (s : State) : (s.setGateDir).gateLevel1 = s.gateLevel1 := rfl
@[simp] theorem setGateDir_trace (s : State) : (s.setGateDir).trace = s.trace := rfl
@[simp] theorem setGateDir_chipA (s : State) : (s.setGateDir).chipA = s.chipA := rfl
@[simp] theorem setGateDir_chipB (s : State) : (s.setGateDir).chipB = s.chipB := rfl
@[simp] theorem setGateDir_port (s : State) : (s.setGateDir).port = s.port := rfl
@[simp] theorem setGateDir_params (s : State) : (s.setGateDir).params = s.params := rfl
@[simp] theorem setGateDir_refusalMark (s : State) : (s.setGateDir).refusalMark = s.refusalMark := rfl

/-! ### s.setGateLevel .g0 l -/

@[simp] theorem setGateLevel_g0_addrA (s : State) (l : Level) : (s.setGateLevel .g0 l).addrA = s.addrA := rfl
@[simp] theorem setGateLevel_g0_addrB (s : State) (l : Level) : (s.setGateLevel .g0 l).addrB = s.addrB := rfl
@[simp] theorem setGateLevel_g0_useGate (s : State) (l : Level) : (s.setGateLevel .g0 l).useGate = s.useGate := rfl
@[simp] theorem setGateLevel_g0_phaseA (s : State) (l : Level) : (s.setGateLevel .g0 l).phaseA = s.phaseA := rfl
@[simp] theorem setGateLevel_g0_phaseB (s : State) (l : Level) : (s.setGateLevel .g0 l).phaseB = s.phaseB := rfl
@[simp] theorem setGateLevel_g0_gateDir (s : State) (l : Level) : (s.setGateLevel .g0 l).gateDir = s.gateDir := rfl
@[simp] theorem setGateLevel_g0_gateLevel0 (s : State) (l : Level) : (s.setGateLevel .g0 l).gateLevel0 = some l := rfl
@[simp] theorem setGateLevel_g0_gateLevel1 (s : State) (l : Level) : (s.setGateLevel .g0 l).gateLevel1 = s.gateLevel1 := rfl
@[simp] theorem setGateLevel_g0_trace (s : State) (l : Level) : (s.setGateLevel .g0 l).trace = s.trace := rfl
@[simp] theorem setGateLevel_g0_chipA (s : State) (l : Level) : (s.setGateLevel .g0 l).chipA = s.chipA := rfl
@[simp] theorem setGateLevel_g0_chipB (s : State) (l : Level) : (s.setGateLevel .g0 l).chipB = s.chipB := rfl
@[simp] theorem setGateLevel_g0_port (s : State) (l : Level) : (s.setGateLevel .g0 l).port = s.port := rfl
@[simp] theorem setGateLevel_g0_params (s : State) (l : Level) : (s.setGateLevel .g0 l).params = s.params := rfl
@[simp] theorem setGateLevel_g0_refusalMark (s : State) (l : Level) : (s.setGateLevel .g0 l).refusalMark = s.refusalMark := rfl

/-! ### s.setGateLevel .g1 l -/

@[simp] theorem setGateLevel_g1_addrA (s : State) (l : Level) : (s.setGateLevel .g1 l).addrA = s.addrA := rfl
@[simp] theorem setGateLevel_g1_addrB (s : State) (l : Level) : (s.setGateLevel .g1 l).addrB = s.addrB := rfl
@[simp] theorem setGateLevel_g1_useGate (s : State) (l : Level) : (s.setGateLevel .g1 l).useGate = s.useGate := rfl
@[simp] theorem setGateLevel_g1_phaseA (s : State) (l : Level) : (s.setGateLevel .g1 l).phaseA = s.phaseA := rfl
@[simp] theorem setGateLevel_g1_phaseB (s : State) (l : Level) : (s.setGateLevel .g1 l).phaseB = s.phaseB := rfl
@[simp] theorem setGateLevel_g1_gateDir (s : State) (l : Level) : (s.setGateLevel .g1 l).gateDir = s.gateDir := rfl
@[simp] theorem setGateLevel_g1_gateLevel0 (s : State) (l : Level) : (s.setGateLevel .g1 l).gateLevel0 = s.gateLevel0 := rfl
@[simp] theorem setGateLevel_g1_gateLevel1 (s : State) (l : Level) : (s.setGateLevel .g1 l).gateLevel1 = some l := rfl
@[simp] theorem setGateLevel_g1_trace (s : State) (l : Level) : (s.setGateLevel .g1 l).trace = s.trace := rfl
@[simp] theorem setGateLevel_g1_chipA (s : State) (l : Level) : (s.setGateLevel .g1 l).chipA = s.chipA := rfl
@[simp] theorem setGateLevel_g1_chipB (s : State) (l : Level) : (s.setGateLevel .g1 l).chipB = s.chipB := rfl
@[simp] theorem setGateLevel_g1_port (s : State) (l : Level) : (s.setGateLevel .g1 l).port = s.port := rfl
@[simp] theorem setGateLevel_g1_params (s : State) (l : Level) : (s.setGateLevel .g1 l).params = s.params := rfl
@[simp] theorem setGateLevel_g1_refusalMark (s : State) (l : Level) : (s.setGateLevel .g1 l).refusalMark = s.refusalMark := rfl

/-! ### s.respond st d -/

@[simp] theorem respond_addrA (s : State) (st : Status) (d : BitVec 12) : (s.respond st d).addrA = s.addrA := rfl
@[simp] theorem respond_addrB (s : State) (st : Status) (d : BitVec 12) : (s.respond st d).addrB = s.addrB := rfl
@[simp] theorem respond_useGate (s : State) (st : Status) (d : BitVec 12) : (s.respond st d).useGate = s.useGate := rfl
@[simp] theorem respond_phaseA (s : State) (st : Status) (d : BitVec 12) : (s.respond st d).phaseA = s.phaseA := rfl
@[simp] theorem respond_phaseB (s : State) (st : Status) (d : BitVec 12) : (s.respond st d).phaseB = s.phaseB := rfl
@[simp] theorem respond_gateDir (s : State) (st : Status) (d : BitVec 12) : (s.respond st d).gateDir = s.gateDir := rfl
@[simp] theorem respond_gateLevel0 (s : State) (st : Status) (d : BitVec 12) : (s.respond st d).gateLevel0 = s.gateLevel0 := rfl
@[simp] theorem respond_gateLevel1 (s : State) (st : Status) (d : BitVec 12) : (s.respond st d).gateLevel1 = s.gateLevel1 := rfl
@[simp] theorem respond_trace (s : State) (st : Status) (d : BitVec 12) : (s.respond st d).trace = s.trace ++ [Event.resp st d] := rfl
@[simp] theorem respond_chipA (s : State) (st : Status) (d : BitVec 12) : (s.respond st d).chipA = s.chipA := rfl
@[simp] theorem respond_chipB (s : State) (st : Status) (d : BitVec 12) : (s.respond st d).chipB = s.chipB := rfl
@[simp] theorem respond_port (s : State) (st : Status) (d : BitVec 12) : (s.respond st d).port = s.port := rfl
@[simp] theorem respond_params (s : State) (st : Status) (d : BitVec 12) : (s.respond st d).params = s.params := rfl
@[simp] theorem respond_refusalMark (s : State) (st : Status) (d : BitVec 12) : (s.respond st d).refusalMark = s.refusalMark := rfl

/-! ### s.presentFirst w -/

@[simp] theorem presentFirst_addrA (s : State) (w : CmdWord) : (s.presentFirst w).addrA = s.addrA := rfl
@[simp] theorem presentFirst_addrB (s : State) (w : CmdWord) : (s.presentFirst w).addrB = s.addrB := rfl
@[simp] theorem presentFirst_useGate (s : State) (w : CmdWord) : (s.presentFirst w).useGate = s.useGate := rfl
@[simp] theorem presentFirst_phaseA (s : State) (w : CmdWord) : (s.presentFirst w).phaseA = s.phaseA := rfl
@[simp] theorem presentFirst_phaseB (s : State) (w : CmdWord) : (s.presentFirst w).phaseB = s.phaseB := rfl
@[simp] theorem presentFirst_gateDir (s : State) (w : CmdWord) : (s.presentFirst w).gateDir = s.gateDir := rfl
@[simp] theorem presentFirst_gateLevel0 (s : State) (w : CmdWord) : (s.presentFirst w).gateLevel0 = s.gateLevel0 := rfl
@[simp] theorem presentFirst_gateLevel1 (s : State) (w : CmdWord) : (s.presentFirst w).gateLevel1 = s.gateLevel1 := rfl
@[simp] theorem presentFirst_trace (s : State) (w : CmdWord) : (s.presentFirst w).trace = s.trace := rfl
@[simp] theorem presentFirst_chipA (s : State) (w : CmdWord) : (s.presentFirst w).chipA = s.chipA := rfl
@[simp] theorem presentFirst_chipB (s : State) (w : CmdWord) : (s.presentFirst w).chipB = s.chipB := rfl
@[simp] theorem presentFirst_port (s : State) (w : CmdWord) : (s.presentFirst w).port = w :: s.port := rfl
@[simp] theorem presentFirst_params (s : State) (w : CmdWord) : (s.presentFirst w).params = s.params := rfl
@[simp] theorem presentFirst_refusalMark (s : State) (w : CmdWord) : (s.presentFirst w).refusalMark = s.refusalMark := rfl

/-! ### s.answerIllegal -/

@[simp] theorem answerIllegal_addrA (s : State) : (s.answerIllegal).addrA = s.addrA := rfl
@[simp] theorem answerIllegal_addrB (s : State) : (s.answerIllegal).addrB = s.addrB := rfl
@[simp] theorem answerIllegal_useGate (s : State) : (s.answerIllegal).useGate = s.useGate := rfl
@[simp] theorem answerIllegal_phaseA (s : State) : (s.answerIllegal).phaseA = s.phaseA := rfl
@[simp] theorem answerIllegal_phaseB (s : State) : (s.answerIllegal).phaseB = s.phaseB := rfl
@[simp] theorem answerIllegal_gateDir (s : State) : (s.answerIllegal).gateDir = s.gateDir := rfl
@[simp] theorem answerIllegal_gateLevel0 (s : State) : (s.answerIllegal).gateLevel0 = s.gateLevel0 := rfl
@[simp] theorem answerIllegal_gateLevel1 (s : State) : (s.answerIllegal).gateLevel1 = s.gateLevel1 := rfl
@[simp] theorem answerIllegal_trace (s : State) : (s.answerIllegal).trace = s.trace ++ [Event.resp .illegal 0] := rfl
@[simp] theorem answerIllegal_chipA (s : State) : (s.answerIllegal).chipA = s.chipA := rfl
@[simp] theorem answerIllegal_chipB (s : State) : (s.answerIllegal).chipB = s.chipB := rfl
@[simp] theorem answerIllegal_port (s : State) : (s.answerIllegal).port = s.port := rfl
@[simp] theorem answerIllegal_params (s : State) : (s.answerIllegal).params = s.params := rfl
@[simp] theorem answerIllegal_refusalMark (s : State) : (s.answerIllegal).refusalMark = true := rfl

/-! ### Views by chip and by pin -/

@[simp] theorem busAddr_a (s : State) : s.busAddr .a = s.addrA := rfl
@[simp] theorem busAddr_b (s : State) : s.busAddr .b = s.addrB := rfl
@[simp] theorem phase_a (s : State) : s.phase .a = s.phaseA := rfl
@[simp] theorem phase_b (s : State) : s.phase .b = s.phaseB := rfl
@[simp] theorem chipRegs_a (s : State) : s.chipRegs .a = s.chipA := rfl
@[simp] theorem chipRegs_b (s : State) : s.chipRegs .b = s.chipB := rfl
@[simp] theorem gateLevel_g0 (s : State) : s.gateLevel .g0 = s.gateLevel0 := rfl
@[simp] theorem gateLevel_g1 (s : State) : s.gateLevel .g1 = s.gateLevel1 := rfl

end Sys2Proof.Laws
end

