-- ==== Sys2Proof/Laws/Ops.lean ====
section
/-! SUPPORT. One lemma per shared operation that says everything it does, as one record update of the state before. -/

namespace Sys2Proof.Laws

open Sys2Proof.Machine

/-- A one-byte write to chip A (R25). -/
theorem memWrite_a (s : State) (reg : Byte) (v : List Byte) :
    s.memWrite .a reg v =
      { s with trace := s.trace ++ [Event.busWrite s.addrA (reg :: v)],
               chipA := Memory.writeBytes s.chipA reg v } := rfl

/-- The same to chip B. -/
theorem memWrite_b (s : State) (reg : Byte) (v : List Byte) :
    s.memWrite .b reg v =
      { s with trace := s.trace ++ [Event.busWrite s.addrB (reg :: v)],
               chipB := Memory.writeBytes s.chipB reg v } := rfl

/-- Both pins become outputs (R69). -/
theorem configurePins_eq (s : State) :
    s.configurePins =
      { s with trace := s.trace ++ [Event.pinMode .g0, Event.pinMode .g1], gateDir := true } := by
  simp [State.configurePins, State.emit, State.setGateDir]

/-- Both pins take one level (R78). -/
theorem drivePins_eq (s : State) (l : Level) :
    s.drivePins l =
      { s with trace := s.trace ++ [Event.pinWrite .g0 l, Event.pinWrite .g1 l],
               gateLevel0 := some l, gateLevel1 := some l } := by
  simp [State.drivePins, State.drivePin, State.emit, State.setGateLevel]

/-- One stage of INIT: one byte to chip A, then to chip B (R70 to R72). -/
theorem writeBothChips_eq (s : State) (reg v : Byte) (p : Phase) :
    writeBothChips s reg v p =
      { s with trace := s.trace ++ [Event.busWrite s.addrA [reg, v], Event.busWrite s.addrB [reg, v]],
               phaseA := p, phaseB := p,
               chipA := Memory.write s.chipA reg.toNat v, chipB := Memory.write s.chipB reg.toNat v } := by
  simp [writeBothChips, State.memWrite, State.emit, State.storeChip, State.setPhase, State.busAddr,
    Memory.writeBytes]

/-- Step 2 of INIT (R69). -/
theorem initMutePins_eq (s : State) :
    initMutePins s =
      if s.useGate then
        { s with trace := s.trace ++
                   [Event.pinMode .g0, Event.pinMode .g1, Event.pinWrite .g0 .high, Event.pinWrite .g1 .high],
                 gateDir := true, gateLevel0 := some .high, gateLevel1 := some .high }
      else s := by
  simp [initMutePins, configurePins_eq, drivePins_eq, levelDisabled]

/-- ENABLE and DISABLE as one update (R79, R80). -/
theorem gateCommand_eq (l : Level) (s : State) :
    gateCommand l s =
      if s.useGate then
        { s with trace := s.trace ++ [Event.pinWrite .g0 l, Event.pinWrite .g1 l, Event.resp .ok 0],
                 gateLevel0 := some l, gateLevel1 := some l }
      else { s with trace := s.trace ++ [Event.resp .fail 0] } := by
  cases h : s.useGate <;> simp [gateCommand, h, drivePins_eq, State.respond, State.emit, gateStatus]

/-- The transaction of SETPULSE (R87, R88). -/
theorem writeOffTicks_eq (s : State) (ch : Channel) (t : Ticks) :
    writeOffTicks s ch t =
      match chipOf ch with
      | .a =>
        { s with trace := s.trace ++ [Event.busWrite s.addrA [baseOf ch + 2, ticksLow t, ticksHigh t]],
                 chipA := Memory.writeBytes s.chipA (baseOf ch + 2) [ticksLow t, ticksHigh t] }
      | .b =>
        { s with trace := s.trace ++ [Event.busWrite s.addrB [baseOf ch + 2, ticksLow t, ticksHigh t]],
                 chipB := Memory.writeBytes s.chipB (baseOf ch + 2) [ticksLow t, ticksHigh t] } := by
  unfold writeOffTicks
  simp only [lookup, offLow]
  cases chipOf ch <;> rfl

/-- What the port gives: nothing, or the oldest word (R48). -/
theorem takeCommand_eq (s : State) :
    s.takeCommand =
      match s.port with
      | [] => none
      | w :: rest => some (w, { s with port := rest }) := rfl

end Sys2Proof.Laws
end

