-- ==== Sys2Proof/Laws/PerInstr.lean ====
section
/-! SUPPORT. The fields the encoder gives a command are well-formed, one lemma per command (30_encoding.md R43). -/

namespace Sys2Proof.Laws.EncodedFields

/-- The fields of the command fall under none of the reserved encodings of R44. -/
def Statement (i : Instr) : Prop := (instrFields i).wf = true

theorem lookup (ch : Channel) : Statement (.lookup ch) := by
  simp [Statement, instrFields, Fields.wf, Fields.opDefined, Fields.chOk, Fields.usOk, Fields.usesCh, Fields.usesUs]

theorem conv (us : Micros) : Statement (.conv us) := by
  simp [Statement, instrFields, Fields.wf, Fields.opDefined, Fields.chOk, Fields.usOk, Fields.usesCh, Fields.usesUs]

theorem init : Statement .init := rfl

theorem enable : Statement .enable := rfl

theorem disable : Statement .disable := rfl

theorem setpulse (ch : Channel) (us : Micros) : Statement (.setpulse ch us) := by
  simp [Statement, instrFields, Fields.wf, Fields.opDefined, Fields.chOk, Fields.usOk, Fields.usesCh, Fields.usesUs]

end Sys2Proof.Laws.EncodedFields
end

