-- ==== Sys2Proof/Laws/Step.lean ====
section
/-! SUPPORT. What a step can do, said once: every invariant of the block is proved by these cases. -/

namespace Sys2Proof.Laws

open Sys2Proof.Machine

/-- If SETPULSE answers a next state, the owning chip was Awake and the state is this one (R87). -/
theorem execSetpulse_next (ch : Channel) (us : Micros) (s t : State)
    (h : execSetpulse ch us s = .next t) :
    s.phase (lookup ch).cs = .awake ∧
      t = (writeOffTicks s ch (microsecondsToTicks us)).respond .ok 0 := by
  unfold execSetpulse at h
  split at h
  · next hp => exact ⟨hp, (Host.Outcome.next.inj h).symm⟩
  · exact nomatch h

/-- If a command answers a next state, then it only answered (LOOKUP, CONV), or was INIT, or was a gating command, or
was SETPULSE with the owning chip Awake. -/
theorem exec_next (i : Instr) (s t : State) (h : exec i s = .next t) :
    ((∃ ch, i = .lookup ch ∧ t = s.respond .ok (entryData (lookup ch))) ∨
      (∃ us, i = .conv us ∧ t = s.respond .ok (microsecondsToTicks us))) ∨
    (i = .init ∧ execInit s = .next t) ∨
    (i = .enable ∧ t = gateCommand .low s ∨ i = .disable ∧ t = gateCommand .high s) ∨
    (∃ ch us, i = .setpulse ch us ∧ s.phase (chipOf ch) = .awake ∧
      t = (writeOffTicks s ch (microsecondsToTicks us)).respond .ok 0) := by
  cases i with
  | lookup ch => exact Or.inl (Or.inl ⟨ch, rfl, (Host.Outcome.next.inj h).symm⟩)
  | conv us => exact Or.inl (Or.inr ⟨us, rfl, (Host.Outcome.next.inj h).symm⟩)
  | init => exact Or.inr (Or.inl ⟨rfl, h⟩)
  | enable => exact Or.inr (Or.inr (Or.inl (Or.inl ⟨rfl, (Host.Outcome.next.inj h).symm⟩)))
  | disable => exact Or.inr (Or.inr (Or.inl (Or.inr ⟨rfl, (Host.Outcome.next.inj h).symm⟩)))
  | setpulse ch us =>
    have hn := execSetpulse_next ch us s t h
    exact Or.inr (Or.inr (Or.inr ⟨ch, us, rfl, hn.1, hn.2⟩))

/-- If a step answers a next state, the block was idle, or ran the decoded command, or answered a reserved word. -/
theorem step_next (s t : State) (h : step s = .next t) :
    (s.port = [] ∧ t = s) ∨
    (∃ w rest i, s.port = w :: rest ∧ decode w = .ok i ∧ exec i { s with port := rest } = .next t) ∨
    (∃ w rest r, s.port = w :: rest ∧ decode w = .invalid r ∧
      t = State.answerIllegal { s with port := rest }) := by
  unfold step at h
  rw [takeCommand_eq] at h
  split at h
  · next hn =>
    split at hn
    · next hp => exact Or.inl ⟨hp, (Host.Outcome.next.inj h).symm⟩
    · exact nomatch hn
  · next w s' hs =>
    split at hs
    · exact nomatch hs
    · next w' rest hp =>
      simp only [Option.some.injEq, Prod.mk.injEq] at hs
      obtain ⟨rfl, rfl⟩ := hs
      split at h
      · next i hd => exact Or.inr (Or.inl ⟨_, rest, i, hp, hd, h⟩)
      · next r hd => exact Or.inr (Or.inr ⟨_, rest, r, hp, hd, (Host.Outcome.next.inj h).symm⟩)

end Sys2Proof.Laws
end

