-- ==== Sys2Proof/Tests/Slice0.lean ====
section
/-! SUPPORT. The model's own tests. Expected words, responses and transactions are those of 95_test_vectors.md; the
second part shows, for every statement with hypotheses, a state and operands that meet them. -/

namespace Sys2Proof.Tests

open Sys2Proof.Machine

/-- `RESET 0x40, 0x60, 1` with the suggested mode bytes. -/
def board : State := State.resetWith 0x40 0x60 true OpenParams.suggested

/-- `RESET 0x5F, 0x7F, 0`. -/
def plain : State := State.resetWith 0x5F 0x7F false OpenParams.suggested

/-- The start state of V-SETPULSE: `(0x40, 0x60, 1, Awake, Awake, 1, 1/1)`. -/
def ready : State :=
  { board with phaseA := .awake, phaseB := .awake, gateDir := true,
               gateLevel0 := some .high, gateLevel1 := some .high }

/-- The trace of a next state. -/
def traceOf (o : Host.Outcome State Fault Refusal) : Option (List Event) :=
  match o with
  | .next s => some s.trace
  | _ => none

/-- A view of a next state. -/
def viewOf {α : Type} (f : State → α) (o : Host.Outcome State Fault Refusal) : Option α :=
  match o with
  | .next s => some (f s)
  | _ => none

/-! ## WellFormed: an ill-formed term for each check -/

theorem test_fields_reject_op_zero : (Fields.mk 0 0 0).opDefined = false := by decide

theorem test_fields_reject_op_seven : (Fields.mk 7 0 0).opDefined = false := by decide

theorem test_fields_reject_unused_channel : (Fields.mk 2 1 1500).chOk = false := by decide

theorem test_fields_reject_unused_micros : (Fields.mk 1 5 1).usOk = false := by decide

theorem test_fields_accept_setpulse : (Fields.mk 6 31 0xFFFFFFFF).wf = true := by decide

theorem test_memory_rejects_unsorted : Memory.wf [(5, 1), (3, 2)] = false := by decide

theorem test_memory_rejects_address_256 : Memory.wf [(256, 1)] = false := by decide

/-! ## Decoding: words of V-DECODE, V-LOOKUP, V-CONV, V-SETPULSE -/

theorem test_decode_lookup : decode 0x2500000000 = .ok (.lookup 5) := by decide

theorem test_decode_conv : decode 0x40000005DC = .ok (.conv 1500) := by decide

theorem test_decode_init : decode 0x6000000000 = .ok .init := by decide

theorem test_decode_enable : decode 0x8000000000 = .ok .enable := by decide

theorem test_decode_disable : decode 0xA000000000 = .ok .disable := by decide

theorem test_decode_setpulse : decode 0xD4000007D0 = .ok (.setpulse 20 2000) := by decide

theorem test_decode_setpulse_largest : decode 0xDFFFFFFFFF = .ok (.setpulse 31 4294967295) := by decide

theorem test_decode_rejects :
    decode 0x00000005DC = .invalid .opcode ∧ decode 0xFFFFFFFFFF = .invalid .opcode ∧
    decode 0x2000000001 = .invalid .microsField ∧ decode 0x4100000000 = .invalid .channelField ∧
    decode 0x6000000001 = .invalid .microsField ∧ decode 0x6100000000 = .invalid .channelField ∧
    decode 0x9F00000000 = .invalid .channelField ∧ decode 0xA000000100 = .invalid .microsField := by decide

theorem test_encode_setpulse : encode (.setpulse 0 1500) = 0xC0000005DC := by decide

theorem test_decode_table_word : decodeTableWord 40 0xA000000000 = some .disable := by decide

/-! ## The six commands -/

/-- V-LOOKUP, the whole table of R54: the chips and the bases. -/
theorem test_register_map :
    ((List.range 32).map fun n => (lookup (BitVec.ofNat 5 n)).base) =
      [0x08, 0x0C, 0x10, 0x14, 0x18, 0x1C, 0x20, 0x24, 0x28, 0x2C, 0x30, 0x34, 0x38, 0x3C, 0x40, 0x44] ++
      [0x08, 0x0C, 0x10, 0x14, 0x18, 0x1C, 0x20, 0x24, 0x28, 0x2C, 0x30, 0x34, 0x38, 0x3C, 0x40, 0x44] ∧
    ((List.range 32).map fun n => (lookup (BitVec.ofNat 5 n)).cs) =
      List.replicate 16 Chip.a ++ List.replicate 16 Chip.b := by decide

/-- V-LOOKUP: `LOOKUP 31` answers `RSP` 0x0144. -/
theorem test_lookup_last_channel : traceOf (exec (.lookup 31) board) = some [.resp .ok 0x144] ∧
    rspWord .ok 0x144 = 0x0144 := by decide

/-- V-CONV: rows around the threshold, around 32 bits of product, and the largest. -/
theorem test_conv_vectors :
    microsecondsToTicks 4 = 0 ∧ microsecondsToTicks 5 = 1 ∧ microsecondsToTicks 1249 = 255 ∧
    microsecondsToTicks 1250 = 256 ∧ microsecondsToTicks 1500 = 307 ∧ microsecondsToTicks 2000 = 409 ∧
    microsecondsToTicks 19983 = 4094 ∧ microsecondsToTicks 19984 = 4095 ∧
    microsecondsToTicks 19989 = 4095 ∧ microsecondsToTicks 42949673 = 4095 ∧
    microsecondsToTicks 2147483648 = 4095 ∧ microsecondsToTicks 4294967295 = 4095 := by decide

/-- P5: `CONV 1500` before INIT answers 0x133. -/
theorem test_conv_before_init : traceOf (exec (.conv 1500) board) = some [.resp .ok 0x133] := by decide

/-- V-INIT row 1: the trace. -/
theorem test_init_trace : traceOf (exec .init board) = some
    [.busOpen, .pinMode .g0, .pinMode .g1, .pinWrite .g0 .high, .pinWrite .g1 .high,
     .busWrite 0x40 [0x00, 0x11], .busWrite 0x60 [0x00, 0x11],
     .busWrite 0x40 [0xFE, 0x79], .busWrite 0x60 [0xFE, 0x79],
     .busWrite 0x40 [0x00, 0x21], .busWrite 0x60 [0x00, 0x21],
     .delay 100000, .resp .ok 0] := by decide

/-- V-INIT row 1: the end state and the shadow. -/
theorem test_init_end_state :
    viewOf (fun s => [s.phaseA, s.phaseB]) (exec .init board) = some [.awake, .awake] ∧
    viewOf (fun s => (s.gateDir, [s.gateLevel0, s.gateLevel1])) (exec .init board) =
      some (true, [some .high, some .high]) ∧
    viewOf (fun s => (s.chipA, s.chipB)) (exec .init board) =
      some ([(0x00, 0x21), (0xFE, 0x79)], [(0x00, 0x21), (0xFE, 0x79)]) := by decide

/-- V-GATE rows 1 and 3. -/
theorem test_enable : traceOf (exec .enable plain) = some [.resp .fail 0] ∧
    traceOf (exec .enable ready) = some [.pinWrite .g0 .low, .pinWrite .g1 .low, .resp .ok 0] ∧
    rspWord .fail 0 = 0x4000 := by decide

/-- V-GATE row 7: before INIT the latch is loaded and nothing is driven. -/
theorem test_enable_before_init :
    viewOf (fun s => (s.gateLevel0, s.gateLevel1, s.gateDir, outputEnableState s)) (exec .enable board) =
      some (some .low, some .low, false, none) := by decide

/-- V-GATE rows 2 and 6. -/
theorem test_disable : traceOf (exec .disable plain) = some [.resp .fail 0] ∧
    viewOf outputEnableState (exec .disable ready) = some (some .disabled) := by decide

/-- V-SETPULSE: S8, the last of chip A, the first of chip B, the saturated last channel. -/
theorem test_setpulse_vectors :
    traceOf (exec (.setpulse 0 1500) ready) = some [.busWrite 0x40 [0x0A, 0x33, 0x01], .resp .ok 0] ∧
    traceOf (exec (.setpulse 15 544) ready) = some [.busWrite 0x40 [0x46, 0x6F, 0x00], .resp .ok 0] ∧
    traceOf (exec (.setpulse 16 1250) ready) = some [.busWrite 0x60 [0x0A, 0x00, 0x01], .resp .ok 0] ∧
    traceOf (exec (.setpulse 31 20000) ready) = some [.busWrite 0x60 [0x46, 0xFF, 0x0F], .resp .ok 0] := by decide

/-- P1 and the undefined row: the shadow of a pulse, and the fault before INIT by the owning chip. -/
theorem test_setpulse_shadow_and_fault :
    viewOf (fun s => (s.chipA, s.chipB)) (exec (.setpulse 0 1500) ready) =
      some ([(0x0A, 0x33), (0x0B, 0x01)], []) ∧
    exec (.setpulse 0 1500) board = .fault (.useBeforeInit .a) ∧
    exec (.setpulse 16 1500) board = .fault (.useBeforeInit .b) := ⟨by decide, rfl, rfl⟩

/-- V-DECODE: a reserved word is answered 0xC000; the placed word of DISABLE runs first after reset. -/
theorem test_step :
    traceOf (step (State.reset.withFetchWord 40 0xE000000000)) = some [.resp .illegal 0] ∧
    rspWord .illegal 0 = 0xC000 ∧
    traceOf (step (State.reset.withFetchWord 40 0xA000000000)) =
      some [.pinWrite .g0 .high, .pinWrite .g1 .high, .resp .ok 0] := by decide

/-- R125: between `PinMode` and `PinWrite` the pad is any value, then high. -/
theorem test_pad_window : padAfter .g0 [.pinMode .g0] = .anyValue ∧
    padAfter .g0 [.pinWrite .g0 .low] = .undriven ∧
    padAfter .g0 [.pinMode .g0, .pinWrite .g0 .high] = .driven .high := by decide

/-! ## Witnesses: every statement with hypotheses has states and operands that meet them -/

theorem witness_EncodeOfDecodeIsTheWord : decode 0x3F00000000 = .ok (.lookup 31) := by decide

theorem witness_StepRunsTheDecodedCommand :
    (board.presentFirst 0x6000000000).port = [0x6000000000] ∧ decode 0x6000000000 = .ok .init := by decide

theorem witness_StepRunsThePlacedTableWord : decodeTableWord 40 0xC0000005DC = some (.setpulse 0 1500) := by decide

theorem witness_IdleStepChangesNothing : board.port = [] := rfl

theorem witness_ReservedWordIsAnsweredIllegal :
    (board.presentFirst 0x0000000000).port = [0x0000000000] ∧ decode 0x0000000000 = .invalid .opcode := by decide

theorem witness_RefusalMarkIsKept :
    (∃ t, step (board.presentFirst 0x0000000000) = .next t) ∧ ∃ t, step { board with refusalMark := true } = .next t :=
  ⟨⟨_, rfl⟩, ⟨_, rfl⟩⟩

theorem witness_OnlySetpulseFaults : exec (.setpulse 16 1500) board = .fault (.useBeforeInit .b) := rfl

theorem witness_EveryCommandEndsWithOneResponse :
    (board.presentFirst 0x6000000000).port ≠ [] ∧ ∃ t, step (board.presentFirst 0x6000000000) = .next t :=
  ⟨by decide, _, rfl⟩

/-- Boundary channels 0, 15, 16, 31; channels 14 and 30 below the last of a chip; two channels of one chip. -/
theorem witness_RegisterMapProperties :
    (15 : Channel).toNat < 16 ∧ 16 ≤ (16 : Channel).toNat ∧ (14 : Channel).toNat % 16 < 15 ∧
    (30 : Channel).toNat % 16 < 15 ∧ (0 : Channel) ≠ 15 ∧ (lookup 0).cs = (lookup 15).cs ∧
    (lookup 16).cs = (lookup 31).cs := by decide

/-- Boundary values of the clauses: 19983, 19984, 19988, 19989. -/
theorem witness_ConverterThresholds :
    (19983 : Micros).toNat ≤ 19983 ∧ 19984 ≤ (19984 : Micros).toNat ∧ (19988 : Micros).toNat ≤ 19988 ∧
    19989 ≤ (19989 : Micros).toNat := by decide

theorem witness_ConverterProperties :
    (999 : Micros).toNat ≤ (1000 : Micros).toNat ∧ (19983 : Micros).toNat ≤ 19983 ∧
    (1500 : Micros).toNat = (1499 : Micros).toNat + 1 ∧ 4094 < 4095 ∧
    (∃ t, exec (.conv 1500) board = .next t) ∧ ∃ t, exec (.conv 1500) ready = .next t :=
  ⟨by decide, by decide, by decide, by decide, ⟨_, rfl⟩, _, rfl⟩

theorem witness_ConverterEquivalentForms :
    (19983 : Micros).toNat < 19984 ∧ (42949672 : Micros).toNat ≤ 42949672 := by decide

theorem witness_InitRunsTheSixSteps : board.useGate = true ∧ plain.useGate = false := by decide

/-- The two registers INIT writes are shut out of its frame, and both ends of the space but 0x00 are in it. -/
theorem witness_InitFrameRegisters : (0xFF : Byte) ≠ 0x00 ∧ (0xFF : Byte) ≠ 0xFE ∧ (0x01 : Byte) ≠ 0x00 := by decide

/-- The half state of a stage: chip A's phase has moved, chip B's has not. -/
theorem witness_InitStagesMoveThePhases :
    ((board.memWrite .a 0xFE [121]).setPhase .a .prescaleSet).phaseA = .prescaleSet ∧
    ((board.memWrite .a 0xFE [121]).setPhase .a .prescaleSet).phaseB = .uninit := by decide

/-- The bytes R51 suggests are legal, and 0x31, which names auto-increment beside sleep, is not. -/
theorem witness_ModeWritesSetTheNamedFieldsOnly :
    OpenParams.Legal board.params ∧ (∃ t, exec .init board = .next t) ∧
    (∃ t, step (board.presentFirst 0x6000000000) = .next t) ∧
    ¬ OpenParams.Legal { OpenParams.suggested with modeSleepAllcall := 0x31 } :=
  ⟨by decide, ⟨_, rfl⟩, ⟨_, rfl⟩, by decide⟩

theorem witness_InitIsIdempotent :
    (∃ t, exec .init board = .next t) ∧ (∃ t, exec .init ready = .next t) ∧ ready.addrA = board.addrA ∧
    ready.addrB = board.addrB ∧ ready.useGate = board.useGate ∧ ready.params = board.params ∧
    board.useGate = true :=
  ⟨⟨_, rfl⟩, ⟨_, rfl⟩, rfl, rfl, rfl, rfl, rfl⟩

theorem witness_EnableDrivesBothPinsLow : ready.useGate = true ∧ plain.useGate = false := by decide

theorem witness_DisableDrivesBothPinsHigh : board.useGate = true ∧ plain.useGate = false := by decide

theorem witness_UseGateIsFixedAndGuardsThePins :
    plain.useGate = false ∧ (∃ t, step (plain.presentFirst 0x6000000000) = .next t) ∧ ready.useGate = true ∧
    (∃ t, exec .disable ready = .next t) ∧ ∃ t, exec (.setpulse 3 1500) ready = .next t :=
  ⟨rfl, ⟨_, rfl⟩, rfl, ⟨_, rfl⟩, _, rfl⟩

/-- Both commands, with and without gating. -/
theorem witness_GateLevelsAreOpposite :
    plain.useGate = false ∧ ready.useGate = true ∧
    (Instr.enable = .enable ∧ Level.low = .low ∧ Level.high = .high) ∧
    (Instr.disable = .disable ∧ Level.high = .high ∧ Level.low = .low) := by decide

theorem witness_GateAnswerDependsOnUseGateAlone : plain.useGate = false ∧ board.useGate = ready.useGate := by decide

theorem witness_GateCommandsBeforeInitLoadTheLatchOnly :
    board.useGate = true ∧ board.gateDir = false ∧
    (∃ t, exec .enable board = .next t ∧ ∃ u, exec .init t = .next u) ∧
    ∃ t, exec .disable board = .next t ∧ ∃ u, exec .init t = .next u :=
  ⟨rfl, rfl, ⟨_, rfl, _, rfl⟩, _, rfl, _, rfl⟩

/-- One state for each of the four rows of R78, each command answering a next state there. -/
theorem witness_GatingTransitions :
    gatingState plain = some .absent ∧ gatingState board = some .undriven ∧ gatingState ready = some .disabled ∧
    gatingState { ready with gateLevel0 := some .low, gateLevel1 := some .low } = some .enabled ∧
    (∃ t, exec .init plain = .next t) ∧ (∃ t, exec .enable ready = .next t) ∧
    (∃ t, exec .disable ready = .next t) ∧ (∃ t, exec (.lookup 0) board = .next t) ∧
    ∃ t, exec (.setpulse 3 1500) ready = .next t :=
  ⟨rfl, rfl, rfl, rfl, ⟨_, rfl⟩, ⟨_, rfl⟩, ⟨_, rfl⟩, ⟨_, rfl⟩, _, rfl⟩

theorem witness_OutputEnableStateIsDerived :
    plain.useGate = false ∧ board.useGate = true ∧ board.gateDir = false ∧ ready.useGate = true ∧
    ready.gateDir = true := by decide

theorem witness_OnlyEnableEnablesTheOutputs :
    ∃ s t : State, exec (.setpulse 3 1500) s = .next t ∧ outputEnableState t = some .enabled :=
  ⟨{ ready with gateLevel0 := some .low, gateLevel1 := some .low }, _, rfl, rfl⟩

theorem witness_GatingAndPhaseAreIndependent :
    (∃ t, exec .enable board = .next t) ∧ (∃ t, exec .disable ready = .next t) ∧
    ∃ t, exec (.setpulse 3 1500) ready = .next t :=
  ⟨⟨_, rfl⟩, ⟨_, rfl⟩, _, rfl⟩

/-- Boundary channels 15 and 16, with the owning chip Awake and not. -/
theorem witness_SetpulseWritesTheOffBytes :
    (15 : Channel).toNat < 16 ∧ 16 ≤ (16 : Channel).toNat ∧ ready.phaseA = .awake ∧ ready.phaseB = .awake ∧
    board.phaseA ≠ .awake ∧ board.phaseB ≠ .awake := by decide

theorem witness_SetpulseBeforeInitFaults :
    board.phase (chipOf 16) ≠ .awake ∧ (board.presentFirst 0xD0000005DC).port = [0xD0000005DC] ∧
    decode 0xD0000005DC = .ok (.setpulse 16 1500) := by decide

/-- The lowest and the highest channel of the frame, and a register outside the two off bytes. -/
theorem witness_SetpulseFrame :
    (∃ t, exec (.setpulse 0 1500) ready = .next t) ∧ (∃ t, exec (.setpulse 31 20000) ready = .next t) ∧
    ¬ (Chip.a = (lookup 31).cs ∧ ((0x46 : Byte) = (lookup 31).base + 2 ∨ (0x46 : Byte) = (lookup 31).base + 3)) :=
  ⟨⟨_, rfl⟩, ⟨_, rfl⟩, by decide⟩

theorem witness_PulseHighByteFitsTheLowNibble : ∃ t, exec (.setpulse 31 4294967295) ready = .next t := ⟨_, rfl⟩

theorem witness_ChannelsAreIndependent : (∃ t, exec (.setpulse 0 1500) ready = .next t) ∧ (16 : Channel) ≠ 0 :=
  ⟨⟨_, rfl⟩, by decide⟩

/-- Each transaction delivered. -/
def allReach : Delivery := fun _ => true

/-- The first event of the trace lost. -/
def firstLost : Delivery := fun n => n != 0

/-- A witness for each clause, at its boundary: counts 1 and 4095, pins low, pins high, no gating, pads not driven, and a
count of 0; a delivery of every transaction, and one that loses the pulse. -/
theorem witness_OutputFollowsThePulse :
    microsecondsToTicks 5 ≠ 0 ∧ microsecondsToTicks 19984 = 4095 ∧ microsecondsToTicks 4 = 0 ∧
    (∃ s t : State, exec (.setpulse 0 5) s = .next t ∧ outputEnableState s = some .enabled) ∧
    (∃ s t : State, exec (.setpulse 31 19984) s = .next t ∧ s.useGate = false) ∧
    (∃ t, exec (.setpulse 0 4) ready = .next t ∧ outputEnableState ready = some .disabled ∧
      everyDelivered allReach t.trace = true ∧ everyDelivered firstLost t.trace = false) ∧
    ∃ s t : State, exec (.setpulse 16 5) s = .next t ∧ s.useGate = true ∧ outputEnableState s = none :=
  ⟨by decide, by decide, by decide,
    ⟨{ ready with gateLevel0 := some .low, gateLevel1 := some .low }, _, rfl, rfl⟩,
    ⟨{ plain with phaseA := .awake, phaseB := .awake }, _, rfl, rfl⟩, ⟨_, rfl, rfl, by decide, by decide⟩,
    ⟨{ board with phaseA := .awake, phaseB := .awake }, _, rfl, rfl, rfl⟩⟩

/-- A chip at `ready` that was sent one pulse, with the addresses apart. -/
theorem witness_DeliveredTransactionsMakeTheShadowTrue :
    ∃ t, exec (.setpulse 0 1500) ready = .next t ∧ Safety.TraceFoldInv t ∧ t.addrA ≠ t.addrB ∧
      everyDelivered allReach t.trace = true ∧ sentByte t .a 0x0A = some 0x33 :=
  ⟨_, rfl, fun _ => ⟨by decide, by decide⟩, by decide, by decide, by decide⟩

theorem witness_LostTransactionsAreSilent :
    (∃ t, exec (.setpulse 0 1500) ready = .next t ∧ everyDelivered allReach t.trace = true) ∧
    firstLost ready.trace.length = false := ⟨⟨_, rfl, by decide⟩, by decide⟩

theorem witness_EveryTransactionIsOfTheTable :
    (∃ t, exec .init board = .next t ∧ Event.busWrite 0x40 [0xFE, 0x79] ∈ t.trace) ∧
    ∃ t, exec (.setpulse 16 1250) ready = .next t ∧ Event.busWrite 0x60 [0x0A, 0x00, 0x01] ∈ t.trace :=
  ⟨⟨_, rfl, by decide⟩, _, rfl, by decide⟩

theorem witness_OnBytesAreNeverWritten :
    ∃ t, exec .init board = .next t ∧ sentByte t .a 0xFE ≠ sentByte board .a 0xFE := ⟨_, rfl, by decide⟩

theorem witness_PhaseNeverReachesTheTrace :
    (∃ t, exec .init ready = .next t) ∧
    ∃ u, exec .init { ready with phaseA := .uninit, phaseB := .prescaleSet } = .next u :=
  ⟨⟨_, rfl⟩, _, rfl⟩

theorem witness_ConfigurationIsFixed : ∃ t, step (board.presentFirst 0x6000000000) = .next t := ⟨_, rfl⟩

theorem witness_OnlyInitMovesPhasesAndGateDir :
    ready.gateDir = true ∧ (∃ t, step (ready.presentFirst 0x8000000000) = .next t) ∧
    ∃ t, step (board.presentFirst 0x6000000000) = .next t :=
  ⟨rfl, ⟨_, rfl⟩, _, rfl⟩

/-- After every reset the invariants hold, and INIT steps from there; so the hypotheses of the step statements are met
at `board` with INIT presented. (The port and the refusal mark are in none of the invariants.) -/
theorem witness_StepKeepsTheBlockInvariants :
    Safety.BlockInv (board.presentFirst 0x6000000000) ∧ ∃ t, step (board.presentFirst 0x6000000000) = .next t :=
  ⟨⟨(fun h => nomatch h), rfl, ⟨rfl, Or.inl rfl⟩, (fun h => nomatch h)⟩, _, rfl⟩

theorem witness_StepKeepsTheMemoryCanonical :
    Safety.MemoryInv (board.presentFirst 0x6000000000) ∧ ∃ t, step (board.presentFirst 0x6000000000) = .next t :=
  ⟨⟨rfl, rfl⟩, _, rfl⟩

theorem witness_StepKeepsTheShadowInvariant :
    Safety.ShadowInv (board.presentFirst 0x6000000000) ∧ ∃ t, step (board.presentFirst 0x6000000000) = .next t := by
  refine ⟨⟨?_, ?_, ?_, ?_⟩, _, rfl⟩
  · intro c _ reg
    cases c <;> rfl
  · intro c h
    cases c <;> exact nomatch h
  · intro c reg h
    cases c <;> exact absurd rfl h
  · intro ch v h
    revert h
    cases chipOf ch <;> exact fun h => nomatch h

theorem witness_StepKeepsTheShadowATraceFold :
    Safety.TraceFoldInv (board.presentFirst 0x6000000000) ∧ board.addrA ≠ board.addrB ∧
    ∃ t, step (board.presentFirst 0x6000000000) = .next t :=
  ⟨fun _ => ⟨rfl, rfl⟩, by decide, _, rfl⟩

theorem witness_StepKeepsThePadsInAgreement :
    Safety.PadInv (board.presentFirst 0x6000000000) ∧ ∃ t, step (board.presentFirst 0x6000000000) = .next t :=
  ⟨fun _ => rfl, _, rfl⟩

theorem witness_StepKeepsPrescaleOnlyAsleep :
    Safety.PrescaleInv (board.presentFirst 0x6000000000) ∧ ∃ t, step (board.presentFirst 0x6000000000) = .next t :=
  ⟨(fun pre _ _ _ h => by cases pre <;> exact nomatch h), _, rfl⟩

theorem witness_StepKeepsTheWaitBeforeLaterAccess :
    Safety.SettledInv (board.presentFirst 0x6000000000) ∧ ∃ t, step (board.presentFirst 0x6000000000) = .next t :=
  ⟨⟨(fun pre _ _ _ h => by cases pre <;> exact nomatch h),
    (fun h => by rcases h with ⟨_, _, h⟩ | h | h <;> exact nomatch h)⟩, _, rfl⟩

theorem witness_StepKeepsTheBusOpenedFirst :
    Safety.OpenedInv (board.presentFirst 0x6000000000) ∧ ∃ t, step (board.presentFirst 0x6000000000) = .next t :=
  ⟨⟨(fun pre _ _ _ h => by cases pre <;> exact nomatch h),
    fun h => by rcases h with h | h <;> exact absurd rfl h⟩, _, rfl⟩

/-- The four combinations the parameter of the reset statements ranges over include both preset pairs of R7. -/
theorem witness_ResetPerformsNoIO :
    plain = State.resetWith Config.allJumpers.1 Config.allJumpers.2 false OpenParams.suggested := rfl

end Sys2Proof.Tests
end

section
/-! PROOFS. The scope of the model (00_scope.md): the board it resets to, and the arithmetic of the output rate. -/

namespace Sys2Proof.Proofs.Scope

open Sys2Proof.Machine

/-- The mode bytes R51 suggests meet R8's constraint with sleep at bit 4, all-call response at bit 0 and auto-increment
at bit 5. -/
theorem suggested_legal : OpenParams.Legal OpenParams.suggested :=
  ⟨4, 0, 5, by decide, by decide, by decide, rfl, rfl⟩

@[simp] theorem resetWith_params (a b : BusAddr) (g : Bool) (p : OpenParams) :
    (State.resetWith a b g p).params = p := rfl

/-- A tick at the nominal oscillator is `p + 1` cycles of 40 ns (R108). -/
theorem tickNs_eq (p : Nat) : tickNs p = (p + 1) * 40 := rfl

/-- A period is 4096 ticks (R108), here in one product of the prescale. -/
theorem periodNs_eq (p : Nat) : periodNs p = 163840 * (p + 1) := by
  have hticks : periodNs p = 4096 * tickNs p := rfl
  rw [hticks, tickNs_eq]
  omega

theorem outputRateHz_eq : outputRateHz = 50 := rfl

/-- The formula's rounding at 50 Hz: 25 MHz over 4096 * 50 is 122.07, which rounds down to 122 (R71). -/
theorem prescaleFor_outputRateHz : prescaleFor outputRateHz = 121 := by
  have hround : (25000000 + 4096 * 50 / 2) / (4096 * 50) = 122 := by decide
  rw [outputRateHz_eq]
  exact congrArg (· - 1) hround

/-- Settles O52: the preset "no jumpers set" and the suggested mode bytes are the arguments of the model's reset. -/
theorem resetOfTheChosenBoard : Obligations.ResetOfTheChosenBoard := by
  unfold Obligations.ResetOfTheChosenBoard
  refine ⟨rfl, ?_⟩
  rw [State.reset, resetWith_params]
  exact suggested_legal

/-- Settles O53: the rate by its definition, the prescale by the rounding of R71, tick and period by their closed forms
in the prescale. -/
theorem prescaleArithmetic : Obligations.PrescaleArithmetic := by
  unfold Obligations.PrescaleArithmetic
  exact ⟨rfl, outputRateHz_eq, prescaleFor_outputRateHz, tickNs_eq 121, periodNs_eq 121⟩

end Sys2Proof.Proofs.Scope
end

section
/-! PROOFS. The rules of the block's operations that every later proof uses: what a command emits, what it leaves of the
state, and the two ways an invariant is carried through a step (10_state.md R9 to R23). -/

namespace Sys2Proof.Proofs.Rules

open Sys2Proof.Machine Sys2Proof.Laws

/-! ### The write primitive, for either chip (R25) -/

@[simp] theorem memWrite_addrA (s : State) (c : Chip) (reg : Byte) (v : List Byte) :
    (s.memWrite c reg v).addrA = s.addrA := by cases c <;> rfl
@[simp] theorem memWrite_addrB (s : State) (c : Chip) (reg : Byte) (v : List Byte) :
    (s.memWrite c reg v).addrB = s.addrB := by cases c <;> rfl
@[simp] theorem memWrite_useGate (s : State) (c : Chip) (reg : Byte) (v : List Byte) :
    (s.memWrite c reg v).useGate = s.useGate := by cases c <;> rfl
@[simp] theorem memWrite_phaseA (s : State) (c : Chip) (reg : Byte) (v : List Byte) :
    (s.memWrite c reg v).phaseA = s.phaseA := by cases c <;> rfl
@[simp] theorem memWrite_phaseB (s : State) (c : Chip) (reg : Byte) (v : List Byte) :
    (s.memWrite c reg v).phaseB = s.phaseB := by cases c <;> rfl
@[simp] theorem memWrite_gateDir (s : State) (c : Chip) (reg : Byte) (v : List Byte) :
    (s.memWrite c reg v).gateDir = s.gateDir := by cases c <;> rfl
@[simp] theorem memWrite_gateLevel0 (s : State) (c : Chip) (reg : Byte) (v : List Byte) :
    (s.memWrite c reg v).gateLevel0 = s.gateLevel0 := by cases c <;> rfl
@[simp] theorem memWrite_gateLevel1 (s : State) (c : Chip) (reg : Byte) (v : List Byte) :
    (s.memWrite c reg v).gateLevel1 = s.gateLevel1 := by cases c <;> rfl
@[simp] theorem memWrite_params (s : State) (c : Chip) (reg : Byte) (v : List Byte) :
    (s.memWrite c reg v).params = s.params := by cases c <;> rfl
@[simp] theorem memWrite_trace (s : State) (c : Chip) (reg : Byte) (v : List Byte) :
    (s.memWrite c reg v).trace = s.trace ++ [Event.busWrite (s.busAddr c) (reg :: v)] := by cases c <;> rfl

/-- SETPULSE's transaction is the write primitive at the off bytes of the channel (R87, R88). -/
theorem writeOffTicks_eq_memWrite (s : State) (ch : Channel) (t : Ticks) :
    writeOffTicks s ch t = s.memWrite (chipOf ch) (baseOf ch + 2) [ticksLow t, ticksHigh t] := rfl

/-! ### INIT as one update (R67) -/

/-- The six steps of INIT, before its response (R67). -/
def afterInit (s : State) : State :=
  initStabilise (initWakeChips (initSetPrescale (initSleepChips (initMutePins (initOpenBus s)))))

theorem execInit_eq (s : State) : execInit s = .next ((afterInit s).respond .ok 0) := rfl

/-- The pin events of INIT (R69). -/
def muteEvents (s : State) : List Event :=
  if s.useGate then [.pinMode .g0, .pinMode .g1, .pinWrite .g0 .high, .pinWrite .g1 .high] else []

/-- What INIT puts out before its response (R68 to R73). -/
def initEvents (s : State) : List Event :=
  .busOpen :: muteEvents s ++
    [.busWrite s.addrA [0x00, s.params.modeSleepAllcall], .busWrite s.addrB [0x00, s.params.modeSleepAllcall],
     .busWrite s.addrA [0xFE, 0x79], .busWrite s.addrB [0xFE, 0x79],
     .busWrite s.addrA [0x00, s.params.modeAiAllcall], .busWrite s.addrB [0x00, s.params.modeAiAllcall],
     .delay s.params.tStab]

/-- What INIT makes of the shadow of a chip: its three one-byte writes (R70 to R72). -/
def initRegs (p : OpenParams) (m : Memory) : Memory :=
  Memory.write (Memory.write (Memory.write m (0x00 : Byte).toNat p.modeSleepAllcall) (0xFE : Byte).toNat 0x79)
    (0x00 : Byte).toNat p.modeAiAllcall

theorem afterInit_eq (s : State) :
    afterInit s =
      { s with phaseA := .awake, phaseB := .awake, gateDir := s.useGate || s.gateDir,
               gateLevel0 := if s.useGate then some .high else s.gateLevel0,
               gateLevel1 := if s.useGate then some .high else s.gateLevel1,
               trace := s.trace ++ initEvents s,
               chipA := initRegs s.params s.chipA, chipB := initRegs s.params s.chipB } := by
  cases hg : s.useGate <;>
    simp [afterInit, initStabilise, initWakeChips, initSetPrescale, initSleepChips, initOpenBus, writeBothChips_eq,
      initMutePins_eq, State.emit, hg, initEvents, muteEvents, initRegs, regMode, regPrescale, prescaleValue]

/-! ### What a command emits -/

/-- What ENABLE and DISABLE put out (R79 to R82). -/
def gateEvents (l : Level) (s : State) : List Event :=
  if s.useGate then [.pinWrite .g0 l, .pinWrite .g1 l, .resp .ok 0] else [.resp .fail 0]

/-- What a command that completes puts out: a function of the command, the configuration and the open parameters. -/
def emitted (i : Instr) (s : State) : List Event :=
  match i with
  | .lookup ch => [.resp .ok (entryData (lookup ch))]
  | .conv us => [.resp .ok (microsecondsToTicks us)]
  | .init => initEvents s ++ [.resp .ok 0]
  | .enable => gateEvents .low s
  | .disable => gateEvents .high s
  | .setpulse ch us =>
    [.busWrite (s.busAddr (chipOf ch))
      [baseOf ch + 2, ticksLow (microsecondsToTicks us), ticksHigh (microsecondsToTicks us)], .resp .ok 0]

theorem gateCommand_trace (l : Level) (s : State) : (gateCommand l s).trace = s.trace ++ gateEvents l s := by
  cases hg : s.useGate <;> simp [gateCommand_eq, gateEvents, hg]

theorem exec_trace {i : Instr} {s t : State} (h : exec i s = .next t) : t.trace = s.trace ++ emitted i s := by
  obtain (⟨ch, rfl, rfl⟩ | ⟨us, rfl, rfl⟩) | ⟨rfl, hinit⟩ | (⟨rfl, rfl⟩ | ⟨rfl, rfl⟩) | ⟨ch, us, rfl, -, rfl⟩ :=
    exec_next i s t h
  · rfl
  · rfl
  · rw [execInit_eq] at hinit
    obtain rfl := Host.Outcome.next.inj hinit
    simp [afterInit_eq, emitted]
  · exact gateCommand_trace .low s
  · exact gateCommand_trace .high s
  · simp [writeOffTicks_eq_memWrite, emitted]

/-! ### Carrying an invariant through a step -/

/-- A predicate that each thing a step can do to the state keeps: taking a word from the port, marking a refusal,
answering, the six steps of INIT, driving both pins with gating in use, and a pulse to an Awake chip. -/
structure KeptByCommands (P : State → Prop) : Prop where
  port : ∀ s rest, P s → P { s with port := rest }
  mark : ∀ s, P s → P { s with refusalMark := true }
  respond : ∀ s st d, P s → P (s.respond st d)
  init : ∀ s, P s → P (afterInit s)
  drive : ∀ s l, s.useGate = true → P s → P (s.drivePins l)
  pulse : ∀ s ch t, s.phase (chipOf ch) = .awake → P s → P (writeOffTicks s ch t)

namespace KeptByCommands

variable {P : State → Prop} (k : KeptByCommands P) {s t : State}
include k

theorem gateCommand (l : Level) (h : P s) : P (gateCommand l s) := by
  unfold Machine.gateCommand
  split
  · next hg => exact k.respond _ _ _ (k.drive s l hg h)
  · exact k.respond _ _ _ h

theorem exec {i : Instr} (h : P s) (ht : exec i s = .next t) : P t := by
  obtain (⟨ch, -, rfl⟩ | ⟨us, -, rfl⟩) | ⟨-, hinit⟩ | (⟨-, rfl⟩ | ⟨-, rfl⟩) | ⟨ch, us, -, hawake, rfl⟩ :=
    exec_next i s t ht
  · exact k.respond _ _ _ h
  · exact k.respond _ _ _ h
  · rw [execInit_eq] at hinit
    obtain rfl := Host.Outcome.next.inj hinit
    exact k.respond _ _ _ (k.init s h)
  · exact k.gateCommand .low h
  · exact k.gateCommand .high h
  · exact k.respond _ _ _ (k.pulse s ch _ hawake h)

theorem step (h : P s) (ht : step s = .next t) : P t := by
  obtain ⟨-, rfl⟩ | ⟨w, rest, i, -, -, hi⟩ | ⟨w, rest, r, -, -, rfl⟩ := step_next s t ht
  · exact h
  · exact k.exec (k.port s rest h) hi
  · exact k.mark _ (k.respond _ _ _ (k.port s rest h))

end KeptByCommands

/-- A predicate that each elementary operation keeps, wherever in a command it is used. -/
structure KeptByOps (P : State → Prop) : Prop where
  port : ∀ s rest, P s → P { s with port := rest }
  mark : ∀ s, P s → P { s with refusalMark := true }
  emit : ∀ s e, isBusWrite e = false → P s → P (s.emit e)
  memWrite : ∀ s c reg v, P s → P (s.memWrite c reg v)
  setPhase : ∀ s c p, P s → P (s.setPhase c p)
  setGateDir : ∀ s, P s → P s.setGateDir
  setGateLevel : ∀ s g l, P s → P (s.setGateLevel g l)

namespace KeptByOps

variable {P : State → Prop} (k : KeptByOps P) {s : State}
include k

theorem drivePin (g : Pin) (l : Level) (h : P s) : P (s.drivePin g l) :=
  k.setGateLevel _ g l (k.emit s (.pinWrite g l) rfl h)

theorem drivePins (l : Level) (h : P s) : P (s.drivePins l) := k.drivePin .g1 l (k.drivePin .g0 l h)

theorem initMutePins (h : P s) : P (initMutePins s) := by
  unfold Machine.initMutePins
  split
  · exact k.drivePins _ (k.setGateDir _ (k.emit _ _ rfl (k.emit _ _ rfl h)))
  · exact h

theorem writeBothChips (reg v : Byte) (p : Phase) (h : P s) : P (writeBothChips s reg v p) :=
  k.setPhase _ _ _ (k.memWrite _ _ _ _ (k.setPhase _ _ _ (k.memWrite _ _ _ _ h)))

theorem afterInit (h : P s) : P (afterInit s) :=
  k.emit _ _ rfl (k.writeBothChips _ _ _ (k.writeBothChips _ _ _ (k.writeBothChips _ _ _
    (k.initMutePins (k.emit _ _ rfl h)))))

/-- What every elementary operation keeps, every command keeps. -/
theorem keptByCommands : KeptByCommands P where
  port := k.port
  mark := k.mark
  respond s st d h := k.emit s (.resp st d) rfl h
  init _ h := k.afterInit h
  drive _ l _ h := k.drivePins l h
  pulse _ _ _ _ h := k.memWrite _ _ _ _ h

end KeptByOps

end Sys2Proof.Proofs.Rules
end

section
/-! PROOFS. What the chips were sent, register by register (10_state.md R22), and the invariant of the shadow's
contents (20_memory.md R31, 44_set_pulse.md R90). -/

namespace Sys2Proof.Proofs.Shadow

open Sys2Proof.Machine Sys2Proof.Laws Sys2Proof.Safety Sys2Proof.Proofs.Rules

/-! ### The off bytes of a channel (R27, R54) -/

theorem baseOf_toNat (ch : Channel) : (baseOf ch).toNat = 8 + 4 * (ch.toNat % 16) := by
  have hregCh0 : regCh0.toNat = 8 := rfl
  have hchStride : chStride.toNat = 4 := rfl
  simp only [baseOf, BitVec.toNat_add, BitVec.toNat_mul, BitVec.toNat_setWidth, BitVec.extractLsb'_toNat,
    Nat.shiftRight_zero, hregCh0, hchStride]
  omega

theorem offLow_toNat (ch : Channel) : (baseOf ch + 2).toNat = 10 + 4 * (ch.toNat % 16) := by
  have hbase := baseOf_toNat ch
  bv_omega

theorem offHigh_toNat (ch : Channel) : (baseOf ch + 3).toNat = 11 + 4 * (ch.toNat % 16) := by
  have hbase := baseOf_toNat ch
  bv_omega

/-- The off-high byte of a channel is the off-low byte of none (R27). -/
theorem offHigh_ne_offLow (ch ch' : Channel) : baseOf ch + 3 ≠ baseOf ch' + 2 := by
  have hhigh := offHigh_toNat ch
  have hlow := offLow_toNat ch'
  intro heq
  rw [heq] at hhigh
  omega

/-- The mode and the prescale register are no off byte of a channel (R31). -/
theorem initReg_ne_offBytes (ch : Channel) {reg : Byte} (h : reg = 0x00 ∨ reg = 0xFE) :
    reg ≠ baseOf ch + 2 ∧ reg ≠ baseOf ch + 3 := by
  have hlow := offLow_toNat ch
  have hhigh := offHigh_toNat ch
  obtain rfl | rfl := h
  · constructor <;> bv_omega
  · constructor <;> bv_omega

/-- R90: the high byte of a tick count has a zero high nibble. -/
theorem ticksHigh_lt (t : Ticks) : (ticksHigh t).toNat < 16 := by
  simp only [ticksHigh, BitVec.toNat_setWidth, BitVec.extractLsb'_toNat]
  omega

/-! ### A byte read from the shadow after a command -/

theorem read_write (m : Memory) (a r v : Byte) :
    Memory.read (Memory.write m a.toNat v) r.toNat = if r = a then some v else Memory.read m r.toNat := by
  split
  · next h => rw [h, read_write_same]
  · next h => exact read_write_other m _ _ v (fun hn => h (BitVec.eq_of_toNat_eq hn))

/-- The shadow of a chip after a transaction (R22, R25). -/
theorem memWrite_chipRegs (s : State) (c c' : Chip) (reg : Byte) (v : List Byte) :
    (s.memWrite c reg v).chipRegs c' =
      if c' = c then Memory.writeBytes (s.chipRegs c) reg v else s.chipRegs c' := by
  cases c <;> cases c' <;> rfl

/-- Of INIT's three writes to a chip, the second to the mode register replaces the first (R70 to R72). -/
theorem read_initRegs (p : OpenParams) (m : Memory) (reg : Byte) :
    Memory.read (initRegs p m) reg.toNat =
      if reg = 0x00 then some p.modeAiAllcall
      else if reg = 0xFE then some 0x79 else Memory.read m reg.toNat := by
  rw [initRegs, read_write, read_write, read_write]
  split
  · rfl
  · rfl

/-- INIT sends every chip the wake byte and 121, and no other register anything (R70 to R72). -/
theorem sentByte_afterInit (s : State) (c : Chip) (reg : Byte) :
    sentByte (afterInit s) c reg =
      if reg = 0x00 then some s.params.modeAiAllcall else if reg = 0xFE then some 0x79 else sentByte s c reg := by
  have hregs : (afterInit s).chipRegs c = initRegs s.params (s.chipRegs c) := by
    rw [afterInit_eq]
    cases c <;> rfl
  rw [sentByte, hregs, read_initRegs, sentByte]

/-- A pulse sends the owning chip the two off bytes of the channel, and no other register anything (R87, R89). -/
theorem sentByte_writeOffTicks (s : State) (ch : Channel) (t : Ticks) (c : Chip) (reg : Byte) :
    sentByte (writeOffTicks s ch t) c reg =
      if c = chipOf ch ∧ reg = baseOf ch + 3 then some (ticksHigh t)
      else if c = chipOf ch ∧ reg = baseOf ch + 2 then some (ticksLow t)
      else sentByte s c reg := by
  rw [writeOffTicks_eq_memWrite, sentByte, memWrite_chipRegs]
  by_cases hc : c = chipOf ch
  · have hnext : baseOf ch + 2 + 1 = baseOf ch + 3 := by bv_omega
    subst hc
    simp only [true_and, if_true, writeBytes_cons, writeBytes_nil, hnext, read_write, sentByte]
  · simp only [hc, false_and, if_false, sentByte]

/-- A pulse leaves the mode and the prescale register of every chip alone (R89). -/
theorem sentByte_writeOffTicks_initReg (s : State) (ch : Channel) (t : Ticks) (c : Chip) {reg : Byte}
    (h : reg = 0x00 ∨ reg = 0xFE) : sentByte (writeOffTicks s ch t) c reg = sentByte s c reg := by
  obtain ⟨hlow, hhigh⟩ := initReg_ne_offBytes ch h
  rw [sentByte_writeOffTicks, if_neg (fun hp => hhigh hp.2), if_neg (fun hp => hlow hp.2)]

/-! ### The invariant of the shadow's contents -/

/-- ShadowInv speaks of the phases, the open parameters and the shadow only. -/
theorem shadowInv_congr {s t : State} (h : ShadowInv s) (hphaseA : t.phaseA = s.phaseA) (hphaseB : t.phaseB = s.phaseB)
    (hparams : t.params = s.params) (hchipA : t.chipA = s.chipA) (hchipB : t.chipB = s.chipB) : ShadowInv t := by
  have hphase (c : Chip) : t.phase c = s.phase c := by
    cases c
    · exact hphaseA
    · exact hphaseB
  have hsent (c : Chip) (reg : Byte) : sentByte t c reg = sentByte s c reg := by
    cases c
    · exact congrArg (Memory.read · _) hchipA
    · exact congrArg (Memory.read · _) hchipB
  refine ⟨fun c hc reg => ?_, fun c hc => ?_, fun c reg hr => ?_, fun ch v hv => ?_⟩
  · rw [hsent]
    exact h.uninit c (hphase c ▸ hc) reg
  · rw [hsent, hsent, hparams]
    exact h.awake c (hphase c ▸ hc)
  · exact h.named c reg (hsent c reg ▸ hr)
  · exact h.highNibble ch v (hsent _ _ ▸ hv)

theorem shadowInv_afterInit (s : State) (h : ShadowInv s) : ShadowInv (afterInit s) := by
  have hphase (c : Chip) : (afterInit s).phase c = .awake := by
    rw [afterInit_eq]
    cases c <;> rfl
  have hparams : (afterInit s).params = s.params := by rw [afterInit_eq]
  refine ⟨fun c hc => ?_, fun c _ => ?_, fun c reg hr => ?_, fun ch v hv => ?_⟩
  · exact nomatch (hphase c).symm.trans hc
  · rw [sentByte_afterInit, sentByte_afterInit, hparams]
    exact ⟨rfl, rfl⟩
  · rw [sentByte_afterInit] at hr
    split at hr
    · next hmode => exact Or.inl hmode
    · split at hr
      · next hpre => exact Or.inr (Or.inl hpre)
      · exact h.named c reg hr
  · have hmode := (initReg_ne_offBytes ch (Or.inl rfl)).2.symm
    have hprescale := (initReg_ne_offBytes ch (Or.inr rfl)).2.symm
    rw [sentByte_afterInit, if_neg hmode, if_neg hprescale] at hv
    exact h.highNibble ch v hv

theorem shadowInv_writeOffTicks (s : State) (ch : Channel) (t : Ticks) (hawake : s.phase (chipOf ch) = .awake)
    (h : ShadowInv s) : ShadowInv (writeOffTicks s ch t) := by
  have hphase (c : Chip) : (writeOffTicks s ch t).phase c = s.phase c := by
    rw [writeOffTicks_eq_memWrite]
    cases c
    · exact memWrite_phaseA ..
    · exact memWrite_phaseB ..
  refine ⟨fun c hc reg => ?_, fun c hc => ?_, fun c reg hr => ?_, fun ch' v hv => ?_⟩
  · have hother : c ≠ chipOf ch := by
      rintro rfl
      exact nomatch hawake.symm.trans ((hphase _).symm.trans hc)
    rw [sentByte_writeOffTicks, if_neg (fun hp => hother hp.1), if_neg (fun hp => hother hp.1)]
    exact h.uninit c ((hphase c).symm.trans hc) reg
  · rw [sentByte_writeOffTicks_initReg s ch t c (Or.inl rfl), sentByte_writeOffTicks_initReg s ch t c (Or.inr rfl),
      writeOffTicks_eq_memWrite, memWrite_params]
    exact h.awake c ((hphase c).symm.trans hc)
  · rw [sentByte_writeOffTicks] at hr
    split at hr
    · next hhigh => exact Or.inr (Or.inr ⟨ch, hhigh.1.symm, Or.inr hhigh.2⟩)
    · split at hr
      · next hlow => exact Or.inr (Or.inr ⟨ch, hlow.1.symm, Or.inl hlow.2⟩)
      · exact h.named c reg hr
  · rw [sentByte_writeOffTicks] at hv
    split at hv
    · obtain rfl := Option.some.inj hv
      exact ticksHigh_lt t
    · rw [if_neg (fun hp => offHigh_ne_offLow ch' ch hp.2)] at hv
      exact h.highNibble ch' v hv

theorem shadowInv_kept : KeptByCommands ShadowInv where
  port _ _ h := shadowInv_congr h rfl rfl rfl rfl rfl
  mark _ h := shadowInv_congr h rfl rfl rfl rfl rfl
  respond _ _ _ h := shadowInv_congr h rfl rfl rfl rfl rfl
  init := shadowInv_afterInit
  drive _ _ _ h := shadowInv_congr h rfl rfl rfl rfl rfl
  pulse := shadowInv_writeOffTicks

/-- Settles O44: INIT wakes every chip and sends both registers, a pulse goes to an Awake chip and changes its two off
bytes only, and the other commands leave phases and shadow alone. -/
theorem stepKeepsTheShadowInvariant : Obligations.StepKeepsTheShadowInvariant := by
  unfold Obligations.StepKeepsTheShadowInvariant
  exact fun _ _ h hstep => shadowInv_kept.step h hstep

/-! ### The canonical form, and the fold of the trace -/

/-- No field that MemoryInv speaks of changes but by a transaction, which keeps the canonical form (R20, R26). -/
theorem memoryInv_kept : KeptByOps MemoryInv where
  port _ _ h := h
  mark _ h := h
  emit _ _ _ h := h
  memWrite _ c reg v h := by
    obtain ⟨ha, hb⟩ := h
    cases c with
    | a => exact ⟨writeBytes_wf _ reg v ha, hb⟩
    | b => exact ⟨ha, writeBytes_wf _ reg v hb⟩
  setPhase _ c _ h := by cases c <;> exact h
  setGateDir _ h := h
  setGateLevel _ g _ h := by cases g <;> exact h

/-- Settles O43: every elementary operation keeps both canonical forms. -/
theorem stepKeepsTheMemoryCanonical : Obligations.StepKeepsTheMemoryCanonical := by
  unfold Obligations.StepKeepsTheMemoryCanonical
  exact fun _ _ h hstep => memoryInv_kept.keptByCommands.step h hstep

theorem sentTo_concat (a : BusAddr) (t : List Event) (e : Event) : sentTo a (t ++ [e]) = receive a (sentTo a t) e := by
  simp [sentTo]

theorem sentTo_concat_of_not_busWrite (a : BusAddr) (t : List Event) (e : Event) (h : isBusWrite e = false) :
    sentTo a (t ++ [e]) = sentTo a t := by
  rw [sentTo_concat, receive_of_not_busWrite a _ e h]

/-- A transaction at the end of a trace changes the fold at its own bus address only (R22, R25). -/
theorem sentTo_concat_busWrite (a a' : BusAddr) (t : List Event) (reg : Byte) (v : List Byte) :
    sentTo a (t ++ [.busWrite a' (reg :: v)]) =
      if a' = a then Memory.writeBytes (sentTo a t) reg v else sentTo a t :=
  sentTo_concat a t _

/-- A transaction to one chip changes that chip's shadow and that address's fold alike, and neither of the other. -/
theorem traceFoldInv_memWrite (s : State) (c : Chip) (reg : Byte) (v : List Byte) (h : TraceFoldInv s) :
    TraceFoldInv (s.memWrite c reg v) := by
  intro haddr
  rw [memWrite_addrA, memWrite_addrB] at haddr
  obtain ⟨ha, hb⟩ := h haddr
  rw [memWrite_addrA, memWrite_addrB, memWrite_trace, sentTo_concat_busWrite, sentTo_concat_busWrite, ← ha, ← hb]
  cases c with
  | a => exact ⟨(if_pos rfl).symm, (if_neg haddr).symm⟩
  | b => exact ⟨(if_neg haddr.symm).symm, (if_pos rfl).symm⟩

theorem traceFoldInv_kept : KeptByOps TraceFoldInv where
  port _ _ h := h
  mark _ h := h
  emit s e he h := by
    intro haddr
    rw [emit_trace, sentTo_concat_of_not_busWrite _ _ e he, sentTo_concat_of_not_busWrite _ _ e he]
    exact h haddr
  memWrite := traceFoldInv_memWrite
  setPhase _ c _ h := by cases c <;> exact h
  setGateDir _ h := h
  setGateLevel _ g _ h := by cases g <;> exact h

/-- Settles O45: a transaction is the one operation that changes a shadow or a fold, and it changes both alike. -/
theorem stepKeepsTheShadowATraceFold : Obligations.StepKeepsTheShadowATraceFold := by
  unfold Obligations.StepKeepsTheShadowATraceFold
  exact fun _ _ h hstep => traceFoldInv_kept.keptByCommands.step h hstep

end Sys2Proof.Proofs.Shadow
end

section
/-! PROOFS. The gating registers and the pads (10_state.md R13 to R15), the phases (R12) and the configuration (R9 to
R11). -/

namespace Sys2Proof.Proofs.Gate

open Sys2Proof.Machine Sys2Proof.Laws Sys2Proof.Safety Sys2Proof.Proofs.Rules

/-! ### The invariants (i) to (iv) of R23 -/

/-- INIT moves both phases to Awake, and with gating in use both latches to high (R69, R75). -/
theorem blockInv_afterInit (s : State) (h : BlockInv s) : BlockInv (afterInit s) := by
  rw [afterInit_eq]
  cases hg : s.useGate with
  | false =>
    obtain ⟨hdir, hlevel0, hlevel1⟩ := h.absent hg
    exact ⟨fun _ => ⟨hdir, hlevel0, hlevel1⟩, h.oneLevel, ⟨rfl, Or.inr rfl⟩, fun hd => nomatch hdir.symm.trans hd⟩
  | true => exact ⟨fun hf => (nomatch hf), rfl, ⟨rfl, Or.inr rfl⟩, fun _ => ⟨rfl, rfl, nofun, nofun⟩⟩

/-- Driving both pins to one level keeps the latches equal and, once driven, with a value (R78). -/
theorem blockInv_drivePins (s : State) (l : Level) (hg : s.useGate = true) (h : BlockInv s) :
    BlockInv (s.drivePins l) := by
  rw [drivePins_eq]
  refine ⟨fun hf => (nomatch hg.symm.trans hf), rfl, h.onePhase, fun hd => ?_⟩
  obtain ⟨hphaseA, hphaseB, -, -⟩ := h.driven hd
  exact ⟨hphaseA, hphaseB, nofun, nofun⟩

theorem blockInv_kept : KeptByCommands BlockInv where
  port _ _ h := ⟨h.absent, h.oneLevel, h.onePhase, h.driven⟩
  mark _ h := ⟨h.absent, h.oneLevel, h.onePhase, h.driven⟩
  respond _ _ _ h := ⟨h.absent, h.oneLevel, h.onePhase, h.driven⟩
  init := blockInv_afterInit
  drive := blockInv_drivePins
  pulse _ ch _ _ h := by
    rw [writeOffTicks_eq_memWrite]
    cases chipOf ch <;> exact ⟨h.absent, h.oneLevel, h.onePhase, h.driven⟩

/-- Settles O42: INIT establishes the phases and the latches anew, ENABLE and DISABLE move both latches at once, and
nothing else touches a field of R23. -/
theorem stepKeepsTheBlockInvariants : Obligations.StepKeepsTheBlockInvariants := by
  unfold Obligations.StepKeepsTheBlockInvariants
  exact fun _ _ h hstep => blockInv_kept.step h hstep

/-! ### The pads the trace tells of -/

theorem padAfter_append (g : Pin) (t es : List Event) : padAfter g (t ++ es) = es.foldl (padNext g) (padAfter g t) := by
  simp [padAfter]

theorem padNext_of_not_pinEvent (g : Pin) (p : Pad) (e : Event) (h : isPinEvent e = false) : padNext g p e = p := by
  cases e with
  | pinMode | pinWrite => exact nomatch h
  | busOpen | busWrite | delay | resp => rfl

/-- The events of INIT on the pins drive either pad high, whatever it carried (R69, R125). -/
theorem foldl_padNext_mute (g : Pin) (p : Pad) :
    [Event.pinMode .g0, .pinMode .g1, .pinWrite .g0 .high, .pinWrite .g1 .high].foldl (padNext g) p =
      .driven .high := by
  cases g <;> rfl

/-- A level written to both pins drives a pad that is an output and leaves any other undriven (R83). -/
theorem foldl_padNext_drive (g : Pin) (p : Pad) (l : Level) :
    [Event.pinWrite .g0 l, .pinWrite .g1 l].foldl (padNext g) p = if p = .undriven then .undriven else .driven l := by
  cases g <;> cases p <;> simp [padNext]

theorem padAfter_of_undirected {s : State} (h : PadInv s) (hd : s.gateDir = false) (g : Pin) :
    padAfter g s.trace = .undriven := by
  rw [h g, hd]
  rfl

theorem padAfter_of_directed {s : State} (h : PadInv s) (hd : s.gateDir = true) (g : Pin) :
    padAfter g s.trace ≠ .undriven := by
  rw [h g, hd, if_pos rfl]
  split
  · exact nofun
  · exact nofun

/-- An event on no pin leaves the agreement as it was. -/
theorem padInv_emit (s : State) (e : Event) (he : isPinEvent e = false) (h : PadInv s) : PadInv (s.emit e) := by
  intro g
  rw [emit_trace, padAfter_append]
  exact (padNext_of_not_pinEvent g _ e he).trans (h g)

/-- So does a transaction. -/
theorem padInv_memWrite (s : State) (c : Chip) (reg : Byte) (v : List Byte) (h : PadInv s) :
    PadInv (s.memWrite c reg v) := by
  have hemit := padInv_emit s (.busWrite (s.busAddr c) (reg :: v)) rfl h
  cases c <;> exact hemit

theorem padInv_drivePins (s : State) (l : Level) (h : PadInv s) : PadInv (s.drivePins l) := by
  intro g
  rw [drivePins_eq, padAfter_append, foldl_padNext_drive]
  cases hd : s.gateDir with
  | false => rw [padAfter_of_undirected h hd, if_pos rfl]; rfl
  | true =>
    rw [if_neg (padAfter_of_directed h hd g)]
    cases g <;> rfl

theorem padInv_initMutePins (s : State) (h : PadInv s) : PadInv (initMutePins s) := by
  rw [initMutePins_eq]
  split
  · intro g
    rw [padAfter_append, foldl_padNext_mute]
    cases g <;> rfl
  · exact h

theorem padInv_writeBothChips (s : State) (reg v : Byte) (p : Phase) (h : PadInv s) :
    PadInv (writeBothChips s reg v p) :=
  padInv_memWrite (s.memWrite .a reg [v]) .b reg [v] (padInv_memWrite s .a reg [v] h)

theorem padInv_afterInit (s : State) (h : PadInv s) : PadInv (afterInit s) :=
  padInv_emit _ _ rfl <| padInv_writeBothChips _ _ _ _ <| padInv_writeBothChips _ _ _ _ <|
    padInv_writeBothChips _ _ _ _ <| padInv_initMutePins _ <| padInv_emit s .busOpen rfl h

theorem padInv_kept : KeptByCommands PadInv where
  port _ _ h := h
  mark _ h := h
  respond s st d h := padInv_emit s (.resp st d) rfl h
  init := padInv_afterInit
  drive s l _ h := padInv_drivePins s l h
  pulse s _ _ _ h := padInv_memWrite s _ _ _ h

/-- Settles O46: INIT drives both pads high from whatever they carried; ENABLE and DISABLE drive them exactly when
`GATE_DIR` is set, where the invariant says that they are outputs; no other event is on a pin. -/
theorem stepKeepsThePadsInAgreement : Obligations.StepKeepsThePadsInAgreement := by
  unfold Obligations.StepKeepsThePadsInAgreement
  exact fun _ _ h hstep => padInv_kept.step h hstep

/-! ### OutputEnableState -/

theorem outputEnableState_of_gated {s : State} (hg : s.useGate = true) (hd : s.gateDir = true) :
    outputEnableState s =
      if s.gateLevel0 = some .low ∧ s.gateLevel1 = some .low then some .enabled
      else if s.gateLevel0 = some .high ∧ s.gateLevel1 = some .high then some .disabled
      else none := by
  simp [outputEnableState, hg, hd]

/-- Settles O28: with gating in use and the pins outputs the answer is the test on the latches, whose two rows exclude
each other. -/
theorem outputEnableStateIsDerived : Obligations.OutputEnableStateIsDerived := by
  unfold Obligations.OutputEnableStateIsDerived
  refine fun s => ⟨fun hg => by simp [outputEnableState, hg], fun _ hd => by simp [outputEnableState, hd],
    fun hg hd => ?_⟩
  rw [outputEnableState_of_gated hg hd]
  by_cases hlow : s.gateLevel0 = some .low ∧ s.gateLevel1 = some .low
  · simp [hlow]
  · by_cases hhigh : s.gateLevel0 = some .high ∧ s.gateLevel1 = some .high
    · simp [hhigh]
    · simp [hlow, hhigh]

/-! ### What the commands read and write of phases, `GATE_DIR` and the configuration -/

/-- The events of a command are the same under any two phases. -/
theorem emitted_setPhases (i : Instr) (s : State) (p q : Phase) :
    emitted i { s with phaseA := p, phaseB := q } = emitted i s := by
  cases i with
  | setpulse ch us => cases hc : chipOf ch <;> simp only [emitted, hc] <;> rfl
  | lookup | conv | init | enable | disable => rfl

/-- Settles O39: what a command adds to the trace is `emitted`, which reads no phase. -/
theorem phaseNeverReachesTheTrace : Obligations.PhaseNeverReachesTheTrace := by
  unfold Obligations.PhaseNeverReachesTheTrace
  intro i s t u p q ht hu
  rw [exec_trace ht, exec_trace hu, emitted_setPhases]

/-- The configuration and the open parameters of two states are the same (R8 to R11). -/
def SameConfig (s t : State) : Prop :=
  t.addrA = s.addrA ∧ t.addrB = s.addrB ∧ t.useGate = s.useGate ∧ t.params = s.params

theorem sameConfig_kept (s : State) : KeptByOps (SameConfig s) where
  port _ _ h := h
  mark _ h := h
  emit _ _ _ h := h
  memWrite _ c _ _ h := by cases c <;> exact h
  setPhase _ c _ h := by cases c <;> exact h
  setGateDir _ h := h
  setGateLevel _ g _ h := by cases g <;> exact h

theorem step_sameConfig {s t : State} (h : step s = .next t) : SameConfig s t :=
  (sameConfig_kept s).keptByCommands.step ⟨rfl, rfl, rfl, rfl⟩ h

/-- Settles O40: no elementary operation writes a field of the configuration. -/
theorem configurationIsFixed : Obligations.ConfigurationIsFixed := by
  unfold Obligations.ConfigurationIsFixed
  exact fun _ _ h => step_sameConfig h

/-- Both phases and `GATE_DIR` of two states are the same (R12, R13). -/
def SamePhasesAndDir (s t : State) : Prop :=
  t.phaseA = s.phaseA ∧ t.phaseB = s.phaseB ∧ t.gateDir = s.gateDir

theorem gateCommand_samePhasesAndDir (l : Level) (s : State) : SamePhasesAndDir s (gateCommand l s) := by
  rw [gateCommand_eq]
  split <;> exact ⟨rfl, rfl, rfl⟩

theorem writeOffTicks_samePhasesAndDir (s : State) (ch : Channel) (t : Ticks) :
    SamePhasesAndDir s (writeOffTicks s ch t) :=
  ⟨memWrite_phaseA .., memWrite_phaseB .., memWrite_gateDir ..⟩

theorem exec_samePhasesAndDir {i : Instr} {s t : State} (h : exec i s = .next t) (hi : i ≠ .init) :
    SamePhasesAndDir s t := by
  obtain (⟨ch, -, rfl⟩ | ⟨us, -, rfl⟩) | ⟨hinit, -⟩ | (⟨-, rfl⟩ | ⟨-, rfl⟩) | ⟨ch, us, -, -, rfl⟩ := exec_next i s t h
  · exact ⟨rfl, rfl, rfl⟩
  · exact ⟨rfl, rfl, rfl⟩
  · exact absurd hinit hi
  · exact gateCommand_samePhasesAndDir .low s
  · exact gateCommand_samePhasesAndDir .high s
  · exact writeOffTicks_samePhasesAndDir s ch _

/-- INIT leaves both chips Awake and does not clear `GATE_DIR` (R69, R75). -/
theorem execInit_phasesAndDir {s t : State} (h : exec .init s = .next t) :
    t.phaseA = .awake ∧ t.phaseB = .awake ∧ t.gateDir = (s.useGate || s.gateDir) := by
  obtain rfl := Host.Outcome.next.inj ((execInit_eq s).symm.trans h)
  simp [afterInit_eq]

/-- Settles O41: INIT apart, no command writes a phase or `GATE_DIR`. -/
theorem onlyInitMovesPhasesAndGateDir : Obligations.OnlyInitMovesPhasesAndGateDir := by
  unfold Obligations.OnlyInitMovesPhasesAndGateDir
  intro s t h
  obtain ⟨-, rfl⟩ | ⟨w, rest, i, hport, hdecode, hi⟩ | ⟨w, rest, r, -, -, rfl⟩ := step_next s t h
  · exact ⟨id, Or.inl ⟨rfl, rfl, rfl⟩⟩
  · by_cases hinit : i = .init
    · subst hinit
      obtain ⟨hphaseA, hphaseB, hdir⟩ := execInit_phasesAndDir hi
      exact ⟨fun hd => by simp [hdir, hd], Or.inr ⟨w, rest, hport, hdecode, hphaseA, hphaseB⟩⟩
    · obtain ⟨hphaseA, hphaseB, hdir⟩ := exec_samePhasesAndDir hi hinit
      exact ⟨fun hd => hdir.trans hd, Or.inl ⟨hphaseA, hphaseB, hdir⟩⟩
  · exact ⟨id, Or.inl ⟨rfl, rfl, rfl⟩⟩

/-! ### `USE_GATE` and the pin events -/

/-- Without gating no command emits a pin event (R11). -/
theorem emitted_no_pinEvent (i : Instr) (s : State) (hg : s.useGate = false) :
    (emitted i s).filter isPinEvent = [] := by
  cases i with
  | init => simp [emitted, initEvents, muteEvents, hg, isPinEvent]
  | enable | disable => simp [emitted, gateEvents, hg, isPinEvent]
  | lookup | conv | setpulse => rfl

/-- With gating INIT, ENABLE and DISABLE each emit one, `PinWrite` to `G0` (R69, R79, R80). -/
theorem emitted_pinWrite (i : Instr) (s : State) (hg : s.useGate = true)
    (hi : i = .init ∨ i = .enable ∨ i = .disable) : ∃ l, Event.pinWrite .g0 l ∈ emitted i s := by
  obtain rfl | rfl | rfl := hi
  · exact ⟨.high, by simp [emitted, initEvents, muteEvents, hg]⟩
  · exact ⟨.low, by simp [emitted, gateEvents, hg]⟩
  · exact ⟨.high, by simp [emitted, gateEvents, hg]⟩

theorem step_no_pinEvent {s t : State} (h : step s = .next t) (hg : s.useGate = false) :
    ∃ es, t.trace = s.trace ++ es ∧ es.filter isPinEvent = [] := by
  obtain ⟨-, rfl⟩ | ⟨w, rest, i, -, -, hi⟩ | ⟨w, rest, r, -, -, rfl⟩ := step_next s t h
  · exact ⟨[], by simp⟩
  · have htrace := exec_trace hi
    exact ⟨_, htrace, emitted_no_pinEvent i _ hg⟩
  · exact ⟨_, answerIllegal_trace _, rfl⟩

/-- LOOKUP, CONV and SETPULSE neither read nor write `USE_GATE` (R11). -/
theorem exec_setUseGate {i : Instr} {s t : State} (g : Bool) (h : exec i s = .next t)
    (hinit : i ≠ .init) (henable : i ≠ .enable) (hdisable : i ≠ .disable) :
    exec i { s with useGate := g } = .next { t with useGate := g } := by
  obtain (⟨ch, rfl, rfl⟩ | ⟨us, rfl, rfl⟩) | ⟨rfl, -⟩ | (⟨rfl, -⟩ | ⟨rfl, -⟩) | ⟨ch, us, rfl, hawake, rfl⟩ :=
    exec_next i s t h
  · rfl
  · rfl
  · exact absurd rfl hinit
  · exact absurd rfl henable
  · exact absurd rfl hdisable
  · have hphase : State.phase { s with useGate := g } (chipOf ch) = .awake := by
      rw [← hawake]
      cases chipOf ch <;> rfl
    have hwrite (t : Ticks) : (writeOffTicks { s with useGate := g } ch t).respond .ok 0 =
        { (writeOffTicks s ch t).respond .ok 0 with useGate := g } := by
      rw [writeOffTicks_eq_memWrite, writeOffTicks_eq_memWrite]
      cases chipOf ch <;> rfl
    exact (if_pos hphase).trans (congrArg Host.Outcome.next (hwrite _))

/-- Settles O56: `USE_GATE` is part of the fixed configuration; the events of the commands hold pin events exactly
where it is 1 and the command is INIT, ENABLE or DISABLE. -/
theorem useGateIsFixedAndGuardsThePins : Obligations.UseGateIsFixedAndGuardsThePins := by
  unfold Obligations.UseGateIsFixedAndGuardsThePins
  refine ⟨fun _ _ _ _ => rfl, fun s t h => ?_, fun s t i g hinit henable hdisable h => ?_, fun s t i hg hi h => ?_⟩
  · obtain ⟨-, -, hgate, -⟩ := step_sameConfig h
    exact ⟨hgate, step_no_pinEvent h⟩
  · exact exec_setUseGate g h hinit henable hdisable
  · obtain ⟨l, hl⟩ := emitted_pinWrite i s hg hi
    exact ⟨_, exec_trace h, List.ne_nil_of_mem (List.mem_filter.mpr ⟨hl, rfl⟩)⟩

end Sys2Proof.Proofs.Gate
end

section
/-! PROOFS. What a transaction of a command reaches (20_memory.md R31, 44_set_pulse.md R89), and that the bus is opened
before any (20_memory.md R39). -/

namespace Sys2Proof.Proofs.Transactions

open Sys2Proof.Machine Sys2Proof.Laws Sys2Proof.Safety Sys2Proof.Proofs.Rules Sys2Proof.Proofs.Shadow

/-! ### The registers the block writes (R31) -/

/-- The rows of R31 that the block writes on chip `c`: mode, prescale, and the off bytes of a channel of the chip. -/
def Written (c : Chip) (reg : Byte) : Prop :=
  reg = 0x00 ∨ reg = 0xFE ∨ ∃ ch, chipOf ch = c ∧ (reg = baseOf ch + 2 ∨ reg = baseOf ch + 3)

theorem written_offLow (ch : Channel) : Written (chipOf ch) (baseOf ch + 2) := Or.inr (Or.inr ⟨ch, rfl, Or.inl rfl⟩)

theorem written_offHigh (ch : Channel) : Written (chipOf ch) (baseOf ch + 3) := Or.inr (Or.inr ⟨ch, rfl, Or.inr rfl⟩)

theorem onHigh_toNat (ch : Channel) : (baseOf ch + 1).toNat = 9 + 4 * (ch.toNat % 16) := by
  have hbase := baseOf_toNat ch
  bv_omega

/-- An on byte is at 8 or above and at 0 or 1 modulo 4; a written register is below 8, or at 2 or 3 modulo 4. -/
theorem ne_onBytes_of_written {c : Chip} {reg : Byte} (h : Written c reg) (ch : Channel) :
    reg ≠ baseOf ch ∧ reg ≠ baseOf ch + 1 := by
  have honLow := baseOf_toNat ch
  have honHigh := onHigh_toNat ch
  suffices hreg : reg.toNat < 8 ∨ 2 ≤ reg.toNat % 4 by
    constructor <;> rintro rfl <;> omega
  obtain rfl | rfl | ⟨ch', -, rfl | rfl⟩ := h
  · exact Or.inl (by decide)
  · exact Or.inr (by decide)
  · rw [offLow_toNat]
    omega
  · rw [offHigh_toNat]
    omega

/-! ### What a command changes in the shadow -/

/-- From `s` to `t` no register changed but the written ones. -/
def OnlyWrittenChange (s t : State) : Prop := ∀ c reg, sentByte t c reg ≠ sentByte s c reg → Written c reg

theorem onlyWrittenChange_afterInit (s t : State) (h : OnlyWrittenChange s t) : OnlyWrittenChange s (afterInit t) := by
  intro c reg hne
  rw [sentByte_afterInit] at hne
  split at hne
  · next hmode => exact Or.inl hmode
  · split at hne
    · next hprescale => exact Or.inr (Or.inl hprescale)
    · exact h c reg hne

theorem onlyWrittenChange_writeOffTicks (s t : State) (ch : Channel) (ticks : Ticks) (h : OnlyWrittenChange s t) :
    OnlyWrittenChange s (writeOffTicks t ch ticks) := by
  intro c reg hne
  rw [sentByte_writeOffTicks] at hne
  split at hne
  · next hhigh =>
    obtain ⟨rfl, rfl⟩ := hhigh
    exact written_offHigh ch
  · split at hne
    · next hlow =>
      obtain ⟨rfl, rfl⟩ := hlow
      exact written_offLow ch
    · exact h c reg hne

theorem onlyWrittenChange_kept (s : State) : KeptByCommands (OnlyWrittenChange s) where
  port _ _ h := h
  mark _ h := h
  respond _ _ _ h := h
  init := onlyWrittenChange_afterInit s
  drive _ _ _ h := h
  pulse t ch ticks _ := onlyWrittenChange_writeOffTicks s t ch ticks

theorem exec_onlyWrittenChange {i : Instr} {s t : State} (h : exec i s = .next t) : OnlyWrittenChange s t :=
  (onlyWrittenChange_kept s).exec (fun _ _ hne => absurd rfl hne) h

/-- What is not written keeps the byte it was last sent. -/
theorem sentByte_eq_of_not_written {s t : State} (h : OnlyWrittenChange s t) {c : Chip} {reg : Byte}
    (hreg : ¬ Written c reg) : sentByte t c reg = sentByte s c reg :=
  Classical.byContradiction fun hne => hreg (h c reg hne)

/-! ### What a transaction reaches -/

/-- The data bytes of a transaction land in written registers of the chip whose bus address it carries (R25, R31). -/
def ReachesWritten (s : State) (e : Event) : Prop :=
  ∀ addr reg data, e = .busWrite addr (reg :: data) →
    ∃ c, addr = s.busAddr c ∧ ∀ k < data.length, Written c (reg + BitVec.ofNat 8 k)

theorem reachesWritten_of_not_busWrite (s : State) {e : Event} (h : isBusWrite e = false) : ReachesWritten s e := by
  rintro addr reg data rfl
  exact nomatch h

/-- A transaction of one data byte, to a written register. -/
theorem reachesWritten_one (s : State) {c : Chip} {reg : Byte} (v : Byte) (h : Written c reg) :
    ReachesWritten s (.busWrite (s.busAddr c) [reg, v]) := by
  rintro addr reg data ⟨rfl, rfl, rfl⟩
  refine ⟨c, rfl, fun k hk => ?_⟩
  obtain rfl : k = 0 := by simpa using hk
  simpa using h

/-- The transaction of SETPULSE (R87). -/
theorem reachesWritten_offBytes (s : State) (ch : Channel) (lo hi : Byte) :
    ReachesWritten s (.busWrite (s.busAddr (chipOf ch)) [baseOf ch + 2, lo, hi]) := by
  rintro addr reg data ⟨rfl, rfl, rfl⟩
  refine ⟨chipOf ch, rfl, fun k hk => ?_⟩
  match k, hk with
  | 0, _ => simpa using written_offLow ch
  | 1, _ =>
    have hnext : baseOf ch + 2 + BitVec.ofNat 8 1 = baseOf ch + 3 := by bv_omega
    exact hnext ▸ written_offHigh ch

theorem gateEvents_not_busWrite (l : Level) (s : State) : ∀ e ∈ gateEvents l s, isBusWrite e = false := by
  cases hg : s.useGate <;> simp [gateEvents, hg, isBusWrite]

theorem muteEvents_not_busWrite (s : State) : ∀ e ∈ muteEvents s, isBusWrite e = false := by
  cases hg : s.useGate <;> simp [muteEvents, hg, isBusWrite]

theorem initEvents_reachesWritten (s : State) : ∀ e ∈ initEvents s, ReachesWritten s e := by
  have hmode (c : Chip) (v : Byte) := reachesWritten_one s (c := c) (reg := 0x00) v (Or.inl rfl)
  have hprescale (c : Chip) := reachesWritten_one s (c := c) (reg := 0xFE) 0x79 (Or.inr (Or.inl rfl))
  have hother {e : Event} (he : isBusWrite e = false) := reachesWritten_of_not_busWrite s he
  simp only [initEvents, List.forall_mem_append, List.forall_mem_cons]
  exact ⟨⟨hother rfl, fun e he => hother (muteEvents_not_busWrite s e he)⟩, hmode .a _, hmode .b _, hprescale .a,
    hprescale .b, hmode .a _, hmode .b _, hother rfl, nofun⟩

theorem emitted_reachesWritten (i : Instr) (s : State) : ∀ e ∈ emitted i s, ReachesWritten s e := by
  have hother {e : Event} (he : isBusWrite e = false) := reachesWritten_of_not_busWrite s he
  cases i with
  | lookup | conv => exact List.forall_mem_singleton.mpr (hother rfl)
  | init => exact List.forall_mem_append.mpr ⟨initEvents_reachesWritten s, List.forall_mem_singleton.mpr (hother rfl)⟩
  | enable | disable => exact fun e he => hother (gateEvents_not_busWrite _ s e he)
  | setpulse ch us =>
    exact List.forall_mem_cons.mpr ⟨reachesWritten_offBytes s ch _ _, List.forall_mem_singleton.mpr (hother rfl)⟩

/-- Settles O38: what changes in the shadow and what a transaction reaches are written registers, and no on byte is
one. -/
theorem onBytesAreNeverWritten : Obligations.OnBytesAreNeverWritten := by
  unfold Obligations.OnBytesAreNeverWritten
  intro i s t ht
  have hchange := exec_onlyWrittenChange ht
  refine ⟨fun ch => ⟨?_, ?_⟩, hchange, emitted i s, exec_trace ht, fun addr reg data hmem k ch hk => ?_⟩
  · exact sentByte_eq_of_not_written hchange fun hw => (ne_onBytes_of_written hw ch).1 rfl
  · exact sentByte_eq_of_not_written hchange fun hw => (ne_onBytes_of_written hw ch).2 rfl
  · obtain ⟨c, -, hwritten⟩ := emitted_reachesWritten i s _ hmem addr reg data rfl
    exact ne_onBytes_of_written (hwritten k hk) ch

/-! ### The bus is opened first (R39, D23) -/

/-- A `BusOpen` precedes every transaction of a list of events. -/
def OpenedFirst (t : List Event) : Prop :=
  ∀ pre post a bytes, t = pre ++ Event.busWrite a bytes :: post → Event.busOpen ∈ pre

/-- Events without a transaction. -/
theorem openedFirst_of_not_busWrite {t : List Event} (h : ∀ e ∈ t, isBusWrite e = false) : OpenedFirst t := by
  rintro pre post a bytes rfl
  exact nomatch h (.busWrite a bytes) (by simp)

/-- Events of which the first is `BusOpen`, as those of INIT (R68). -/
theorem openedFirst_busOpen_cons (t : List Event) : OpenedFirst (.busOpen :: t) := by
  intro pre post a bytes heq
  cases pre with
  | nil => exact nomatch heq
  | cons e pre =>
    obtain ⟨rfl, -⟩ := List.cons.inj heq
    exact List.mem_cons_self

/-- More events may follow when the bus is open already, or when they open it first themselves. -/
theorem openedFirst_append {t es : List Event} (h : OpenedFirst t) (hes : Event.busOpen ∈ t ∨ OpenedFirst es) :
    OpenedFirst (t ++ es) := by
  intro pre post a bytes heq
  obtain ⟨mid, rfl, hin⟩ | ⟨mid, rfl, hin⟩ := List.append_eq_append_iff.mp heq
  · exact hes.elim (List.mem_append_left mid) fun hfirst => List.mem_append_right t (hfirst mid post a bytes hin)
  · cases mid with
    | nil =>
      obtain hopen | hfirst := hes
      · simpa using hopen
      · exact nomatch hfirst [] post a bytes hin.symm
    | cons e mid =>
      obtain ⟨rfl, -⟩ := List.cons.inj hin
      exact h pre mid a bytes rfl

/-- OpenedInv goes on where the phases are as before and the events added open the bus first, unless it is open. -/
theorem openedInv_append {s t : State} (h : OpenedInv s) {es : List Event}
    (hes : Event.busOpen ∈ s.trace ∨ OpenedFirst es) (htrace : t.trace = s.trace ++ es)
    (hphaseA : t.phaseA = s.phaseA) (hphaseB : t.phaseB = s.phaseB) : OpenedInv t := by
  obtain ⟨hfirst, hphase⟩ := h
  rw [OpenedInv, htrace, hphaseA, hphaseB]
  exact ⟨openedFirst_append hfirst hes, fun hp => List.mem_append_left es (hphase hp)⟩

/-- A chip that is Awake has been sent something, so the bus is open. -/
theorem busOpen_mem_of_awake {s : State} (h : OpenedInv s) {c : Chip} (hawake : s.phase c = .awake) :
    Event.busOpen ∈ s.trace := by
  obtain ⟨-, hphase⟩ := h
  cases c with
  | a => exact hphase (Or.inl fun hu => nomatch hawake.symm.trans hu)
  | b => exact hphase (Or.inr fun hu => nomatch hawake.symm.trans hu)

theorem openedInv_afterInit (s : State) (h : OpenedInv s) : OpenedInv (afterInit s) := by
  obtain ⟨hfirst, -⟩ := h
  rw [afterInit_eq]
  exact ⟨openedFirst_append hfirst (Or.inr (openedFirst_busOpen_cons _)),
    fun _ => List.mem_append_right _ List.mem_cons_self⟩

theorem openedInv_drivePins (s : State) (l : Level) (h : OpenedInv s) : OpenedInv (s.drivePins l) := by
  rw [drivePins_eq]
  exact openedInv_append h (Or.inr (openedFirst_of_not_busWrite (by simp [isBusWrite]))) rfl rfl rfl

theorem openedInv_kept : KeptByCommands OpenedInv where
  port _ _ h := h
  mark _ h := h
  respond s st d h :=
    openedInv_append h (Or.inr (openedFirst_of_not_busWrite (by simp [isBusWrite]))) (respond_trace s st d) rfl rfl
  init := openedInv_afterInit
  drive s l _ h := openedInv_drivePins s l h
  pulse s ch t hawake h :=
    openedInv_append h (Or.inl (busOpen_mem_of_awake h hawake)) (memWrite_trace ..) (memWrite_phaseA ..)
      (memWrite_phaseB ..)

/-- Settles O49: INIT opens the bus before its own transactions, and a pulse goes to an Awake chip, whose phase tells
that the bus is open. -/
theorem stepKeepsTheBusOpenedFirst : Obligations.StepKeepsTheBusOpenedFirst := by
  unfold Obligations.StepKeepsTheBusOpenedFirst
  exact fun _ _ h hstep => openedInv_kept.step h hstep

end Sys2Proof.Proofs.Transactions
end

section
/-! PROOFS. Decoding and encoding of command words (30_encoding.md R40 to R45): a word is its three fields, a command is
its fields, and the masks of R43 test the fields one by one. -/

namespace Sys2Proof.Proofs.Encoding

/-! ### A word is its three fields (R40) -/

@[simp] theorem splitFields_joinFields (f : Fields) : splitFields (joinFields f) = f := by
  have hop : (joinFields f).extractLsb' 37 3 = f.op := by
    rw [joinFields, BitVec.extractLsb'_append_eq_of_le (by decide)]
    exact BitVec.extractLsb'_append_eq_left
  have hch : (joinFields f).extractLsb' 32 5 = f.ch := by
    rw [joinFields, BitVec.extractLsb'_append_eq_of_le (by decide)]
    exact BitVec.extractLsb'_append_eq_right
  have hus : (joinFields f).extractLsb' 0 32 = f.us := BitVec.extractLsb'_append_eq_right
  rw [splitFields, hop, hch, hus]

@[simp] theorem joinFields_splitFields (w : CmdWord) : joinFields (splitFields w) = w := by
  have hopCh : w.extractLsb' 37 3 ++ w.extractLsb' 32 5 = w.extractLsb' 32 8 :=
    BitVec.extractLsb'_append_extractLsb'_eq_extractLsb' rfl
  exact (congrArg (· ++ w.extractLsb' 0 32) hopCh).trans BitVec.extractLsb'_append_extractLsb'

theorem joinFields_eq_iff {f g : Fields} : joinFields f = joinFields g ↔ f = g :=
  ⟨fun h => by rw [← splitFields_joinFields f, h, splitFields_joinFields], congrArg joinFields⟩

/-! ### A command is its fields (R41, R43) -/

theorem decodeFields_instrFields (i : Instr) : decodeFields (instrFields i) = .ok i := by
  cases i <;> rfl

/-- The field tests let a command through only when the field they test is zero. -/
theorem withoutCh_eq_ok {f : Fields} {r : Decoded} {i : Instr} (h : withoutCh f r = .ok i) : f.ch = 0 ∧ r = .ok i := by
  unfold withoutCh at h
  split at h
  · next hch => exact ⟨hch, h⟩
  · exact nomatch h

theorem withoutUs_eq_ok {f : Fields} {j i : Instr} (h : withoutUs f (.ok j) = .ok i) : f.us = 0 ∧ j = i := by
  unfold withoutUs at h
  split at h
  · next hus => exact ⟨hus, Decoded.ok.inj h⟩
  · exact nomatch h

theorem withoutCh_withoutUs_eq_ok {f : Fields} {j i : Instr} (h : withoutCh f (withoutUs f (.ok j)) = .ok i) :
    f.ch = 0 ∧ f.us = 0 ∧ j = i := by
  obtain ⟨hch, hus⟩ := withoutCh_eq_ok h
  exact ⟨hch, withoutUs_eq_ok hus⟩

theorem op_cases (op : BitVec 3) :
    op = 0 ∨ op = 1 ∨ op = 2 ∨ op = 3 ∨ op = 4 ∨ op = 5 ∨ op = 6 ∨ op = 7 := by
  revert op
  decide

/-- Fields that decode are those of their command. -/
theorem instrFields_of_decodeFields {f : Fields} {i : Instr} (h : decodeFields f = .ok i) : instrFields i = f := by
  obtain ⟨op, ch, us⟩ := f
  obtain rfl | rfl | rfl | rfl | rfl | rfl | rfl | rfl := op_cases op
  · exact nomatch h
  · obtain ⟨rfl, rfl⟩ := withoutUs_eq_ok h
    rfl
  · obtain ⟨rfl, hi⟩ := withoutCh_eq_ok h
    obtain rfl := Decoded.ok.inj hi
    rfl
  · obtain ⟨rfl, rfl, rfl⟩ := withoutCh_withoutUs_eq_ok h
    rfl
  · obtain ⟨rfl, rfl, rfl⟩ := withoutCh_withoutUs_eq_ok h
    rfl
  · obtain ⟨rfl, rfl, rfl⟩ := withoutCh_withoutUs_eq_ok h
    rfl
  · obtain rfl := Decoded.ok.inj h
    rfl
  · exact nomatch h

/-- A word decodes to a command exactly when its fields are those of the command. -/
theorem decode_eq_ok_iff {w : CmdWord} {i : Instr} : decode w = .ok i ↔ splitFields w = instrFields i :=
  ⟨fun h => (instrFields_of_decodeFields h).symm, fun h => by rw [decode, h, decodeFields_instrFields]⟩

/-- Settles O1: the fields of the word are those the encoder joined. -/
theorem decodeOfEncodeIsTheCommand : Obligations.DecodeOfEncodeIsTheCommand := by
  unfold Obligations.DecodeOfEncodeIsTheCommand
  exact fun i => decode_eq_ok_iff.mpr (splitFields_joinFields _)

/-- Settles O2: the fields of the word are those of its command, and joining them gives the word back. -/
theorem encodeOfDecodeIsTheWord : Obligations.EncodeOfDecodeIsTheWord := by
  unfold Obligations.EncodeOfDecodeIsTheWord
  intro w i h
  rw [encode, ← decode_eq_ok_iff.mp h, joinFields_splitFields]

/-! ### The masks and matches of R43 -/

theorem joinFields_and (f g : Fields) :
    joinFields f &&& joinFields g = joinFields { op := f.op &&& g.op, ch := f.ch &&& g.ch, us := f.us &&& g.us } :=
  BitVec.and_append.trans (congrArg (· ++ (f.us &&& g.us)) BitVec.and_append)

/-- Masking a word masks its fields. -/
theorem and_joinFields_eq_iff {w : CmdWord} {m v : Fields} :
    w &&& joinFields m = joinFields v ↔
      (splitFields w).op &&& m.op = v.op ∧ (splitFields w).ch &&& m.ch = v.ch ∧ (splitFields w).us &&& m.us = v.us := by
  obtain ⟨f, rfl⟩ : ∃ f, w = joinFields f := ⟨splitFields w, (joinFields_splitFields w).symm⟩
  rw [splitFields_joinFields, joinFields_and, joinFields_eq_iff, Fields.mk.injEq]

/-- The mask of LOOKUP keeps `OP` and `US`. -/
theorem and_opUsMask_eq_iff {w : CmdWord} {op : BitVec 3} {us : BitVec 32} :
    w &&& 0xE0FFFFFFFF = joinFields ⟨op, 0, us⟩ ↔ (splitFields w).op = op ∧ (splitFields w).us = us := by
  have hmask : (0xE0FFFFFFFF : CmdWord) = joinFields ⟨.allOnes 3, 0, .allOnes 32⟩ := by decide
  rw [hmask, and_joinFields_eq_iff]
  simp only [BitVec.and_allOnes, BitVec.ofNat_eq_ofNat, BitVec.and_zero, true_and]

/-- The mask of CONV keeps `OP` and `CH`. -/
theorem and_opChMask_eq_iff {w : CmdWord} {op : BitVec 3} {ch : BitVec 5} :
    w &&& 0xFF00000000 = joinFields ⟨op, ch, 0⟩ ↔ (splitFields w).op = op ∧ (splitFields w).ch = ch := by
  have hmask : (0xFF00000000 : CmdWord) = joinFields ⟨.allOnes 3, .allOnes 5, 0⟩ := by decide
  rw [hmask, and_joinFields_eq_iff]
  simp only [BitVec.and_allOnes, BitVec.ofNat_eq_ofNat, BitVec.and_zero, and_true]

/-- The mask of INIT, ENABLE and DISABLE keeps the whole word. -/
theorem and_allMask_eq_iff {w : CmdWord} {f : Fields} : w &&& 0xFFFFFFFFFF = joinFields f ↔ splitFields w = f := by
  have hmask : (0xFFFFFFFFFF : CmdWord) = .allOnes 40 := by decide
  rw [hmask, BitVec.and_allOnes, ← joinFields_eq_iff, joinFields_splitFields]

/-- The mask of SETPULSE keeps `OP` alone. -/
theorem and_opMask_eq_iff {w : CmdWord} {op : BitVec 3} :
    w &&& 0xE000000000 = joinFields ⟨op, 0, 0⟩ ↔ (splitFields w).op = op := by
  have hmask : (0xE000000000 : CmdWord) = joinFields ⟨.allOnes 3, 0, 0⟩ := by decide
  rw [hmask, and_joinFields_eq_iff]
  simp only [BitVec.and_allOnes, BitVec.ofNat_eq_ofNat, BitVec.and_zero, and_true]

theorem decode_lookup_iff {w : CmdWord} {ch : Channel} :
    decode w = .ok (.lookup ch) ↔ w &&& 0xE0FFFFFFFF = 0x2000000000 ∧ ch = w.extractLsb' 32 5 := by
  have hmatch : (0x2000000000 : CmdWord) = joinFields ⟨1, 0, 0⟩ := by decide
  rw [decode_eq_ok_iff, hmatch, and_opUsMask_eq_iff, instrFields, splitFields, Fields.mk.injEq]
  exact ⟨fun ⟨hop, hch, hus⟩ => ⟨⟨hop, hus⟩, hch.symm⟩, fun ⟨⟨hop, hus⟩, hch⟩ => ⟨hop, hch.symm, hus⟩⟩

theorem decode_conv_iff {w : CmdWord} {us : Micros} :
    decode w = .ok (.conv us) ↔ w &&& 0xFF00000000 = 0x4000000000 ∧ us = w.extractLsb' 0 32 := by
  have hmatch : (0x4000000000 : CmdWord) = joinFields ⟨2, 0, 0⟩ := by decide
  rw [decode_eq_ok_iff, hmatch, and_opChMask_eq_iff, instrFields, splitFields, Fields.mk.injEq]
  exact ⟨fun ⟨hop, hch, hus⟩ => ⟨⟨hop, hch⟩, hus.symm⟩, fun ⟨⟨hop, hch⟩, hus⟩ => ⟨hop, hch, hus.symm⟩⟩

theorem decode_init_iff {w : CmdWord} : decode w = .ok .init ↔ w &&& 0xFFFFFFFFFF = 0x6000000000 := by
  have hmatch : (0x6000000000 : CmdWord) = joinFields (instrFields .init) := by decide
  rw [decode_eq_ok_iff, hmatch, and_allMask_eq_iff]

theorem decode_enable_iff {w : CmdWord} : decode w = .ok .enable ↔ w &&& 0xFFFFFFFFFF = 0x8000000000 := by
  have hmatch : (0x8000000000 : CmdWord) = joinFields (instrFields .enable) := by decide
  rw [decode_eq_ok_iff, hmatch, and_allMask_eq_iff]

theorem decode_disable_iff {w : CmdWord} : decode w = .ok .disable ↔ w &&& 0xFFFFFFFFFF = 0xA000000000 := by
  have hmatch : (0xA000000000 : CmdWord) = joinFields (instrFields .disable) := by decide
  rw [decode_eq_ok_iff, hmatch, and_allMask_eq_iff]

theorem decode_setpulse_iff {w : CmdWord} {ch : Channel} {us : Micros} :
    decode w = .ok (.setpulse ch us) ↔
      w &&& 0xE000000000 = 0xC000000000 ∧ ch = w.extractLsb' 32 5 ∧ us = w.extractLsb' 0 32 := by
  have hmatch : (0xC000000000 : CmdWord) = joinFields ⟨6, 0, 0⟩ := by decide
  rw [decode_eq_ok_iff, hmatch, and_opMask_eq_iff, instrFields, splitFields, Fields.mk.injEq]
  exact ⟨fun ⟨hop, hch, hus⟩ => ⟨hop, hch.symm, hus.symm⟩, fun ⟨hop, hch, hus⟩ => ⟨hop, hch.symm, hus.symm⟩⟩

theorem decode_invalid_iff {w : CmdWord} : (∃ r, decode w = .invalid r) ↔ ∀ i, decode w ≠ .ok i := by
  cases decode w with
  | ok i => exact ⟨fun h => (nomatch h), fun h => absurd rfl (h i)⟩
  | invalid r => exact ⟨fun _ _ => nofun, fun _ => ⟨r, rfl⟩⟩

/-- Settles O3: each row is the test of the fields its mask keeps, and a word is rejected exactly when it decodes to no
command of the six rows. -/
theorem decodeFollowsTheMaskTable : Obligations.DecodeFollowsTheMaskTable := by
  unfold Obligations.DecodeFollowsTheMaskTable
  refine fun w => ⟨fun _ => decode_lookup_iff, fun _ => decode_conv_iff, decode_init_iff, decode_enable_iff,
    decode_disable_iff, fun _ _ => decode_setpulse_iff, ?_⟩
  rw [decode_invalid_iff]
  constructor
  · exact fun hnone => ⟨fun h => hnone _ (decode_lookup_iff.mpr ⟨h, rfl⟩),
      fun h => hnone _ (decode_conv_iff.mpr ⟨h, rfl⟩), fun h => hnone _ (decode_init_iff.mpr h),
      fun h => hnone _ (decode_enable_iff.mpr h), fun h => hnone _ (decode_disable_iff.mpr h),
      fun h => hnone _ (decode_setpulse_iff.mpr ⟨h, rfl, rfl⟩)⟩
  · intro ⟨hlookup, hconv, hinit, henable, hdisable, hsetpulse⟩ i h
    cases i with
    | lookup ch => exact hlookup (decode_lookup_iff.mp h).1
    | conv us => exact hconv (decode_conv_iff.mp h).1
    | init => exact hinit (decode_init_iff.mp h)
    | enable => exact henable (decode_enable_iff.mp h)
    | disable => exact hdisable (decode_disable_iff.mp h)
    | setpulse ch us => exact hsetpulse (decode_setpulse_iff.mp h).1

/-! ### The reserved encodings (R44) -/

/-- The fields that fall under R44, by `OP`. -/
def ReservedFields (f : Fields) : Prop :=
  f.op = 0 ∨ f.op = 7 ∨ (f.op = 1 ∧ f.us ≠ 0) ∨ (f.op = 2 ∧ f.ch ≠ 0) ∨
    ((f.op = 3 ∨ f.op = 4 ∨ f.op = 5) ∧ (f.ch ≠ 0 ∨ f.us ≠ 0))

theorem reservedFields_lookup {ch : BitVec 5} {us : BitVec 32} : ReservedFields ⟨1, ch, us⟩ ↔ us ≠ 0 := by
  simp [ReservedFields]

theorem reservedFields_conv {ch : BitVec 5} {us : BitVec 32} : ReservedFields ⟨2, ch, us⟩ ↔ ch ≠ 0 := by
  simp [ReservedFields]

theorem reservedFields_noOperand {op : BitVec 3} {ch : BitVec 5} {us : BitVec 32} (hop : op = 3 ∨ op = 4 ∨ op = 5) :
    ReservedFields ⟨op, ch, us⟩ ↔ ch ≠ 0 ∨ us ≠ 0 := by
  obtain rfl | rfl | rfl := hop <;> simp [ReservedFields]

theorem not_reservedFields_setpulse {ch : BitVec 5} {us : BitVec 32} : ¬ ReservedFields ⟨6, ch, us⟩ := by
  simp [ReservedFields]

theorem withoutUs_invalid_iff {f : Fields} {i : Instr} :
    (∃ r, withoutUs f (.ok i) = .invalid r) ↔ f.us ≠ 0 := by
  unfold withoutUs
  split
  · next hus => exact iff_of_false (fun ⟨_, h⟩ => nomatch h) (not_not_intro hus)
  · next hus => exact iff_of_true ⟨_, rfl⟩ hus

theorem withoutCh_invalid_iff {f : Fields} {d : Decoded} :
    (∃ r, withoutCh f d = .invalid r) ↔ f.ch ≠ 0 ∨ ∃ r, d = .invalid r := by
  unfold withoutCh
  split
  · next hch => exact (or_iff_right (not_not_intro hch)).symm
  · next hch => exact iff_of_true ⟨_, rfl⟩ (Or.inl hch)

theorem withoutCh_withoutUs_invalid_iff {f : Fields} {i : Instr} :
    (∃ r, withoutCh f (withoutUs f (.ok i)) = .invalid r) ↔ f.ch ≠ 0 ∨ f.us ≠ 0 := by
  rw [withoutCh_invalid_iff, withoutUs_invalid_iff]

/-- The decoder rejects the reserved fields and no others. -/
theorem decodeFields_invalid_iff (f : Fields) : (∃ r, decodeFields f = .invalid r) ↔ ReservedFields f := by
  obtain ⟨op, ch, us⟩ := f
  obtain rfl | rfl | rfl | rfl | rfl | rfl | rfl | rfl := op_cases op
  · exact iff_of_true ⟨_, rfl⟩ (Or.inl rfl)
  · exact withoutUs_invalid_iff.trans reservedFields_lookup.symm
  · exact withoutCh_invalid_iff.trans ((or_iff_left fun ⟨_, h⟩ => nomatch h).trans reservedFields_conv.symm)
  · exact withoutCh_withoutUs_invalid_iff.trans (reservedFields_noOperand (Or.inl rfl)).symm
  · exact withoutCh_withoutUs_invalid_iff.trans (reservedFields_noOperand (Or.inr (Or.inl rfl))).symm
  · exact withoutCh_withoutUs_invalid_iff.trans (reservedFields_noOperand (Or.inr (Or.inr rfl))).symm
  · exact iff_of_false (fun ⟨_, h⟩ => nomatch h) not_reservedFields_setpulse
  · exact iff_of_true ⟨_, rfl⟩ (Or.inr (Or.inl rfl))

/-- The check of two unused fields. -/
theorem bothZero_eq_false_iff {ch : BitVec 5} {us : BitVec 32} :
    (ch == 0 && us == 0) = false ↔ ch ≠ 0 ∨ us ≠ 0 := by
  rw [Bool.and_eq_false_iff, beq_eq_false_iff_ne, beq_eq_false_iff_ne]

/-- The checks of WellFormed.lean reject the same fields. -/
theorem wf_eq_false_iff (f : Fields) : f.wf = false ↔ ReservedFields f := by
  obtain ⟨op, ch, us⟩ := f
  obtain rfl | rfl | rfl | rfl | rfl | rfl | rfl | rfl := op_cases op
  · exact iff_of_true rfl (Or.inl rfl)
  · exact beq_eq_false_iff_ne.trans reservedFields_lookup.symm
  · have hwf : Fields.wf ⟨2, ch, us⟩ = (ch == 0) := Bool.and_true _
    rw [hwf, beq_eq_false_iff_ne, reservedFields_conv]
  · exact bothZero_eq_false_iff.trans (reservedFields_noOperand (Or.inl rfl)).symm
  · exact bothZero_eq_false_iff.trans (reservedFields_noOperand (Or.inr (Or.inl rfl))).symm
  · exact bothZero_eq_false_iff.trans (reservedFields_noOperand (Or.inr (Or.inr rfl))).symm
  · exact iff_of_false nofun not_reservedFields_setpulse
  · exact iff_of_true rfl (Or.inr (Or.inl rfl))

/-- Settles O4: the decoder and the checks reject the same fields, those of R44. -/
theorem reservedWordsAreRejected : Obligations.ReservedWordsAreRejected := by
  unfold Obligations.ReservedWordsAreRejected
  intro w
  have hdecode := decodeFields_invalid_iff (splitFields w)
  exact ⟨hdecode, hdecode.trans (wf_eq_false_iff _).symm⟩

end Sys2Proof.Proofs.Encoding
end

section
/-! PROOFS. What a step takes from the port (30_encoding.md R48), what it answers (R44, R46, R47), and the transactions
and mode bytes it sends (R49, R51). -/

namespace Sys2Proof.Proofs.Responses

open Sys2Proof.Machine Sys2Proof.Laws Sys2Proof.Safety Sys2Proof.Proofs.Rules Sys2Proof.Proofs.Gate
  Sys2Proof.Proofs.Transactions

/-! ### What a step takes from the port (R48) -/

/-- Settles O8: an idle port has no word to run. -/
theorem idleStepChangesNothing : Obligations.IdleStepChangesNothing := by
  unfold Obligations.IdleStepChangesNothing
  intro s hport
  simp only [step, takeCommand_eq, hport]

/-- Settles O6: the step takes the oldest word off the port and hands its command to exec. -/
theorem stepRunsTheDecodedCommand : Obligations.StepRunsTheDecodedCommand := by
  unfold Obligations.StepRunsTheDecodedCommand
  intro s w rest i hport hdecode
  simp only [step, takeCommand_eq, hport, hdecode]

theorem step_of_reserved {s : State} {w : CmdWord} {rest : List CmdWord} {r : Reserved} (hport : s.port = w :: rest)
    (hdecode : decode w = .invalid r) : step s = .next (State.answerIllegal { s with port := rest }) := by
  simp only [step, takeCommand_eq, hport, hdecode]

/-- Settles O9: the answer is the one event, and its word is the code 11b with no data. -/
theorem reservedWordIsAnsweredIllegal : Obligations.ReservedWordIsAnsweredIllegal := by
  unfold Obligations.ReservedWordIsAnsweredIllegal
  exact fun _ _ _ _ hport hdecode => ⟨step_of_reserved hport hdecode, by decide⟩

theorem decode_tableWord {nbits w : Nat} {i : Instr} (h : decodeTableWord nbits w = some i) :
    decode (tableWord nbits w) = .ok i := by
  unfold decodeTableWord at h
  split at h
  · split at h
    · next j hdecode => rw [hdecode, Option.some.inj h]
    · exact nomatch h
  · exact nomatch h

/-- Settles O7: the placed word is the head of the port, and taking it leaves the state as it was before. -/
theorem stepRunsThePlacedTableWord : Obligations.StepRunsThePlacedTableWord := by
  unfold Obligations.StepRunsThePlacedTableWord
  intro s nbits w i h
  exact stepRunsTheDecodedCommand (s.withFetchWord nbits w) (tableWord nbits w) s.port i rfl (decode_tableWord h)

/-! ### Responses (R46, R47) -/

/-- Settles O13: each field of the word is one part of the concatenation. -/
theorem responseWordLayout : Obligations.ResponseWordLayout := by
  unfold Obligations.ResponseWordLayout
  refine ⟨fun st d => ⟨?_, ?_, ?_⟩, rfl, rfl, rfl⟩
  · rw [rspWord, BitVec.extractLsb'_append_eq_of_le (by decide)]
    exact BitVec.extractLsb'_append_eq_left
  · rw [rspWord, BitVec.extractLsb'_append_eq_of_le (by decide)]
    exact BitVec.extractLsb'_append_eq_right
  · exact BitVec.extractLsb'_append_eq_right

/-- A response ends the events, and none of those before it is one. -/
def EndsWithOneResponse (es : List Event) : Prop :=
  ∃ (before : List Event) (st : Status) (d : BitVec 12),
    es = before ++ [.resp st d] ∧ ∀ e ∈ before, isResponse e = false

theorem initEvents_not_response (s : State) : ∀ e ∈ initEvents s, isResponse e = false := by
  cases hg : s.useGate <;> simp [initEvents, muteEvents, hg, isResponse]

theorem gateEvents_endsWithOneResponse (l : Level) (s : State) : EndsWithOneResponse (gateEvents l s) := by
  unfold gateEvents
  split
  · exact ⟨[.pinWrite .g0 l, .pinWrite .g1 l], .ok, 0, rfl, by simp [isResponse]⟩
  · exact ⟨[], .fail, 0, rfl, nofun⟩

theorem emitted_endsWithOneResponse (i : Instr) (s : State) : EndsWithOneResponse (emitted i s) := by
  cases i with
  | lookup ch => exact ⟨[], _, _, rfl, nofun⟩
  | conv us => exact ⟨[], _, _, rfl, nofun⟩
  | init => exact ⟨initEvents s, .ok, 0, rfl, initEvents_not_response s⟩
  | enable => exact gateEvents_endsWithOneResponse .low s
  | disable => exact gateEvents_endsWithOneResponse .high s
  | setpulse ch us => exact ⟨[_], .ok, 0, rfl, by simp [isResponse]⟩

/-- A step that takes a word adds events that one response ends. -/
theorem step_endsWithOneResponse {s t : State} (hport : s.port ≠ []) (h : step s = .next t) :
    ∃ es, t.trace = s.trace ++ es ∧ EndsWithOneResponse es := by
  obtain ⟨hidle, -⟩ | ⟨w, rest, i, -, -, hi⟩ | ⟨w, rest, r, -, -, rfl⟩ := step_next s t h
  · exact absurd hidle hport
  · have htrace := exec_trace hi
    exact ⟨_, htrace, emitted_endsWithOneResponse i _⟩
  · exact ⟨_, answerIllegal_trace _, [], .illegal, 0, rfl, nofun⟩

/-- Settles O12: the events of every command, and of a reserved word, end with their one response. -/
theorem everyCommandEndsWithOneResponse : Obligations.EveryCommandEndsWithOneResponse := by
  unfold Obligations.EveryCommandEndsWithOneResponse
  intro s t hport h
  obtain ⟨_, htrace, before, st, d, rfl, hbefore⟩ := step_endsWithOneResponse hport h
  exact ⟨before, st, d, by rw [htrace, List.append_assoc], hbefore⟩

/-! ### Transactions (R49) -/

/-- `CS` is bit 4 of the channel, so chip A owns the channels up to 15 (R54). -/
theorem chipOf_eq (ch : Channel) : chipOf ch = if ch.toNat ≤ 15 then .a else .b := by
  revert ch
  decide

theorem busAddr_chipOf (s : State) (ch : Channel) :
    s.busAddr (chipOf ch) = if ch.toNat ≤ 15 then s.addrA else s.addrB := by
  rw [chipOf_eq]
  split <;> rfl

theorem offLow_eq_ofNat (ch : Channel) : baseOf ch + 2 = BitVec.ofNat 8 (0x08 + 4 * (ch.toNat % 16) + 2) := by
  have hlow := Shadow.offLow_toNat ch
  bv_omega

theorem ticksLow_eq_ofNat (t : Ticks) : ticksLow t = BitVec.ofNat 8 t.toNat := by
  apply BitVec.eq_of_toNat_eq
  simp only [ticksLow, BitVec.extractLsb'_toNat, BitVec.toNat_ofNat, Nat.shiftRight_zero]

theorem ticksHigh_eq_ofNat (t : Ticks) : ticksHigh t = BitVec.ofNat 8 (t.toNat / 256) := by
  apply BitVec.eq_of_toNat_eq
  simp only [ticksHigh, BitVec.toNat_setWidth, BitVec.extractLsb'_toNat, BitVec.toNat_ofNat, Nat.shiftRight_eq_div_pow]
  omega

/-- INIT's transactions go to either address and carry one of three byte pairs (R70 to R72). -/
theorem initEvents_busWrite {s : State} {addr : BusAddr} {bytes : List Byte}
    (h : Event.busWrite addr bytes ∈ initEvents s) :
    (addr = s.addrA ∨ addr = s.addrB) ∧
      (bytes = [0x00, s.params.modeSleepAllcall] ∨ bytes = [0xFE, 0x79] ∨
        bytes = [0x00, s.params.modeAiAllcall]) := by
  have hmute : Event.busWrite addr bytes ∉ muteEvents s := fun hm => nomatch muteEvents_not_busWrite s _ hm
  simp only [initEvents, List.cons_append, List.mem_cons, List.mem_append, hmute, Event.busWrite.injEq, reduceCtorEq,
    false_or, or_false, List.not_mem_nil] at h
  obtain ⟨rfl, rfl⟩ | ⟨rfl, rfl⟩ | ⟨rfl, rfl⟩ | ⟨rfl, rfl⟩ | ⟨rfl, rfl⟩ | ⟨rfl, rfl⟩ := h
  · exact ⟨Or.inl rfl, Or.inl rfl⟩
  · exact ⟨Or.inr rfl, Or.inl rfl⟩
  · exact ⟨Or.inl rfl, Or.inr (Or.inl rfl)⟩
  · exact ⟨Or.inr rfl, Or.inr (Or.inl rfl)⟩
  · exact ⟨Or.inl rfl, Or.inr (Or.inr rfl)⟩
  · exact ⟨Or.inr rfl, Or.inr (Or.inr rfl)⟩

/-- Settles O37: the transactions of INIT are six of three forms, that of SETPULSE is the one pulse, and no other
command has any. -/
theorem everyTransactionIsOfTheTable : Obligations.EveryTransactionIsOfTheTable := by
  unfold Obligations.EveryTransactionIsOfTheTable
  intro i s t h
  refine ⟨emitted i s, exec_trace h, fun addr bytes hmem => ?_⟩
  cases i with
  | lookup | conv => simp [emitted] at hmem
  | enable | disable => exact nomatch gateEvents_not_busWrite _ s _ hmem
  | init =>
    simp only [emitted, List.mem_append, List.mem_singleton, reduceCtorEq, or_false] at hmem
    exact Or.inl ⟨rfl, initEvents_busWrite hmem⟩
  | setpulse ch us =>
    simp only [emitted, List.mem_cons, Event.busWrite.injEq, reduceCtorEq, List.not_mem_nil, or_false] at hmem
    obtain ⟨rfl, rfl⟩ := hmem
    refine Or.inr ⟨ch, us, rfl, busAddr_chipOf s ch, ?_⟩
    rw [offLow_eq_ofNat, ticksLow_eq_ofNat, ticksHigh_eq_ofNat]

/-! ### Mode bytes (R51) -/

/-- The two bits a mode byte names are its only ones. -/
theorem modeByte_getLsbD (i j n : Fin 8) : (modeByte i j).getLsbD n = true ↔ n = i ∨ n = j := by
  have hbit (k : Fin 8) : (1#8 <<< k.val).getLsbD n = decide (n = k) := by
    refine (BitVec.getLsbD_twoPow k n).trans ?_
    simp [Fin.ext_iff, eq_comm]
  rw [modeByte, BitVec.getLsbD_or, hbit, hbit, Bool.or_eq_true, decide_eq_true_iff, decide_eq_true_iff]

/-- Settles O54: between the pin events and the wait INIT emits its six transactions, whose mode bytes are the open
parameters, and no step writes those. -/
theorem modeWritesSetTheNamedFieldsOnly : Obligations.ModeWritesSetTheNamedFieldsOnly := by
  unfold Obligations.ModeWritesSetTheNamedFieldsOnly
  refine ⟨fun s t hlegal h => ?_, fun s t hlegal h => ?_⟩
  · obtain ⟨sleep, allCall, autoInc, hsleepAllCall, hsleepAutoInc, hallCallAutoInc, hasleep, hawake⟩ := hlegal
    refine ⟨.busOpen :: muteEvents s, [.delay s.params.tStab, .resp .ok 0], s.params.modeSleepAllcall,
      s.params.modeAiAllcall, sleep, allCall, autoInc, ?_, fun a bytes => ⟨fun hpre => ?_, by simp⟩, hsleepAllCall,
      hsleepAutoInc, hallCallAutoInc, fun n => ?_, fun n => ?_⟩
    · simp [exec_trace h, emitted, initEvents]
    · obtain heq | hmute := List.mem_cons.mp hpre
      · exact nomatch heq
      · exact nomatch muteEvents_not_busWrite s _ hmute
    · rw [hasleep, modeByte_getLsbD]
    · rw [hawake, modeByte_getLsbD]
  · obtain ⟨-, -, -, hparams⟩ := step_sameConfig h
    rw [hparams]
    exact hlegal

end Sys2Proof.Proofs.Responses
end

section
/-! PROOFS. The Register Map and the LOOKUP command (40_register_map.md R54 to R56). -/

namespace Sys2Proof.Proofs.RegisterMap

open Sys2Proof.Machine Sys2Proof.Laws Sys2Proof.Proofs.Shadow Sys2Proof.Proofs.Responses

/-! ### The entry of a channel in numbers (R46, R54) -/

@[simp] theorem lookup_cs (ch : Channel) : (lookup ch).cs = chipOf ch := rfl

@[simp] theorem lookup_base (ch : Channel) : (lookup ch).base = baseOf ch := rfl

/-- `DATA[8]` is the chip and `DATA[7:0]` the base address. -/
theorem entryData_toNat (e : RegisterEntry) :
    (entryData e).toNat = 256 * (chipBit e.cs).toNat + e.base.toNat := by
  have hbase : e.base.toNat < 2 ^ 8 := e.base.isLt
  calc (entryData e).toNat
    _ = (0#3 ++ chipBit e.cs).toNat <<< 8 ||| e.base.toNat := BitVec.toNat_append _ _
    _ = (chipBit e.cs).toNat <<< 8 ||| e.base.toNat := by
      rw [BitVec.toNat_append, BitVec.toNat_zero, Nat.zero_shiftLeft, Nat.zero_or]
    _ = (chipBit e.cs).toNat <<< 8 + e.base.toNat := (Nat.shiftLeft_add_eq_or_of_lt hbase _).symm
    _ = 256 * (chipBit e.cs).toNat + e.base.toNat := by rw [Nat.shiftLeft_eq, Nat.mul_comm]

theorem chipBit_chipOf_toNat (ch : Channel) : (chipBit (chipOf ch)).toNat = ch.toNat / 16 := by
  have hch : ch.toNat < 32 := ch.isLt
  rw [chipOf_eq]
  split
  · show 0 = ch.toNat / 16
    omega
  · show 1 = ch.toNat / 16
    omega

/-- The chip is `CH[4]`, the quotient by 16. -/
theorem chipOf_eq_chipOf_iff {ch ch' : Channel} : chipOf ch = chipOf ch' ↔ ch.toNat / 16 = ch'.toNat / 16 := by
  rw [← chipBit_chipOf_toNat, ← chipBit_chipOf_toNat]
  cases chipOf ch <;> cases chipOf ch' <;> decide

theorem entryData_lookup (ch : Channel) :
    entryData (lookup ch) = BitVec.ofNat 12 (256 * (ch.toNat / 16) + (0x08 + 4 * (ch.toNat % 16))) := by
  rw [← baseOf_toNat, ← chipBit_chipOf_toNat, ← lookup_cs, ← lookup_base, ← entryData_toNat, BitVec.ofNat_toNat,
    BitVec.setWidth_eq]

/-! ### What follows from the map (R55) -/

/-- `BASE[1:0]` = 00b. -/
theorem baseOf_low_bits (ch : Channel) : (baseOf ch).extractLsb' 0 2 = 0 := by
  have hbase := baseOf_toNat ch
  apply BitVec.eq_of_toNat_eq
  rw [BitVec.extractLsb'_toNat, Nat.shiftRight_zero]
  show (baseOf ch).toNat % 4 = 0
  omega

/-- Within a chip the next channel's block is the next 4 bytes. -/
theorem chipOf_and_baseOf_succ {ch : Channel} (h : ch.toNat % 16 < 15) :
    chipOf (ch + 1) = chipOf ch ∧ (baseOf (ch + 1)).toNat = (baseOf ch).toNat + 4 := by
  have hsucc : (ch + 1).toNat = ch.toNat + 1 := by bv_omega
  rw [chipOf_eq_chipOf_iff, baseOf_toNat, baseOf_toNat, hsucc]
  omega

/-- Channels 16 apart differ in `CS` only. -/
theorem baseOf_add_sixteen (ch : Channel) : baseOf (ch + 16) = baseOf ch := by
  have hlow : (ch + 16).toNat % 16 = ch.toNat % 16 := by bv_omega
  apply BitVec.eq_of_toNat_eq
  rw [baseOf_toNat, baseOf_toNat, hlow]

/-- No two channels of one chip share a register: the blocks are 4 bytes long and 4 bytes apart. -/
theorem eq_of_blocks_meet {ch ch' : Channel} (hchip : chipOf ch = chipOf ch') {k k' : Nat} (hk : k < 4) (hk' : k' < 4)
    (hmeet : (baseOf ch).toNat + k = (baseOf ch').toNat + k') : ch = ch' := by
  rw [chipOf_eq_chipOf_iff] at hchip
  rw [baseOf_toNat, baseOf_toNat] at hmeet
  apply BitVec.eq_of_toNat_eq
  omega

/-! ### The statements (R54 to R56) -/

/-- Settles O14: LOOKUP responds with its entry, whose data is the number said. -/
theorem lookupAnswersTheEntry : Obligations.LookupAnswersTheEntry := by
  unfold Obligations.LookupAnswersTheEntry
  intro ch s
  rw [← entryData_lookup]
  rfl

/-- Settles O15: the chip and the base are linear in the channel's number, and the rest is arithmetic. -/
theorem registerMapProperties : Obligations.RegisterMapProperties := by
  unfold Obligations.RegisterMapProperties
  refine ⟨fun ch => ?_, fun _ => chipOf_and_baseOf_succ, fun ch _ => baseOf_add_sixteen ch,
    fun _ _ hne hchip _ _ hk hk' hmeet => hne (eq_of_blocks_meet hchip hk hk' hmeet)⟩
  have hbase := baseOf_toNat ch
  rw [lookup_cs, lookup_base, chipOf_eq]
  refine ⟨fun hlow => if_pos ?_, fun hhigh => if_neg ?_, hbase, baseOf_low_bits ch, ?_, ?_⟩ <;> omega

end Sys2Proof.Proofs.RegisterMap
end

section
/-! PROOFS. The PWM Timing Converter and CONV: thresholds, properties and equivalent forms of the conversion
(41_timing_converter.md R58 to R65). -/

namespace Sys2Proof.Proofs.Converter

open Sys2Proof.Machine Sys2Proof.Proofs.Rules

/-! ### The conversion as a number (R58) -/

theorem microsecondsToTicks_eq_ofNat (us : Micros) :
    microsecondsToTicks us = BitVec.ofNat 12 (min (us.toNat * 100 / 488) 4095) := rfl

/-- The capped quotient fits 12 bits, so taking the word loses nothing (R64 (b)). -/
theorem microsecondsToTicks_toNat (us : Micros) :
    (microsecondsToTicks us).toNat = min (us.toNat * 100 / 488) 4095 := by
  rw [microsecondsToTicks_eq_ofNat, BitVec.toNat_ofNat]
  exact Nat.mod_eq_of_lt (by omega)

theorem microsecondsToTicks_le_tickMax (us : Micros) : (microsecondsToTicks us).toNat ≤ 4095 := by
  rw [microsecondsToTicks_toNat]
  exact Nat.min_le_right _ _

/-- When the conversion reaches a count. The thresholds of R62 and R63, the bound of R64 (d) and the runs of R64 (e)
are instances. -/
theorem le_microsecondsToTicks_iff {us : Micros} {t : Nat} (ht : t ≤ 4095) :
    t ≤ (microsecondsToTicks us).toNat ↔ 488 * t ≤ 100 * us.toNat := by
  rw [microsecondsToTicks_toNat]
  omega

/-- The inputs of an unsaturated count. -/
theorem microsecondsToTicks_toNat_eq_iff {us : Micros} {t : Nat} (ht : t < 4095) :
    (microsecondsToTicks us).toNat = t ↔ 488 * t ≤ 100 * us.toNat ∧ 100 * us.toNat < 488 * (t + 1) := by
  rw [← le_microsecondsToTicks_iff (Nat.le_of_lt ht), ← Nat.not_le, ← le_microsecondsToTicks_iff ht]
  omega

/-! ### Saturation and zero (R62, R63) -/

theorem microsecondsToTicks_eq_tickMax_iff (us : Micros) : microsecondsToTicks us = 4095 ↔ 19984 ≤ us.toNat := by
  have hle := microsecondsToTicks_le_tickMax us
  have hreach := le_microsecondsToTicks_iff (us := us) (Nat.le_refl 4095)
  rw [← BitVec.toNat_inj]
  show (microsecondsToTicks us).toNat = 4095 ↔ _
  omega

theorem microsecondsToTicks_eq_zero_iff (us : Micros) : microsecondsToTicks us = 0 ↔ us.toNat ≤ 4 := by
  rw [← BitVec.toNat_inj]
  show (microsecondsToTicks us).toNat = 0 ↔ _
  rw [microsecondsToTicks_toNat_eq_iff (by decide)]
  omega

/-- Below the threshold the cap does nothing. -/
theorem microsecondsToTicks_toNat_of_lt {us : Micros} (h : us.toNat < 19984) :
    (microsecondsToTicks us).toNat = us.toNat * 100 / 488 := by
  rw [microsecondsToTicks_toNat]
  omega

theorem microsecondsToTicks_of_ge {us : Micros} (h : 19984 ≤ us.toNat) : microsecondsToTicks us = 4095 :=
  (microsecondsToTicks_eq_tickMax_iff us).mpr h

/-! ### Growth, runs and the high byte (R64) -/

theorem microsecondsToTicks_mono {a b : Micros} (h : a.toNat ≤ b.toNat) :
    (microsecondsToTicks a).toNat ≤ (microsecondsToTicks b).toNat := by
  rw [microsecondsToTicks_toNat, microsecondsToTicks_toNat]
  omega

/-- One microsecond is less than one tick (100 < 488), so a step never skips a count. -/
theorem microsecondsToTicks_succ {a b : Micros} (h : b.toNat = a.toNat + 1) :
    (microsecondsToTicks b).toNat = (microsecondsToTicks a).toNat ∨
      (microsecondsToTicks b).toNat = (microsecondsToTicks a).toNat + 1 := by
  rw [microsecondsToTicks_toNat, microsecondsToTicks_toNat, h]
  omega

/-- The first input whose quotient reaches `t`: `488 * t / 100` rounded up. -/
def runStart (t : Nat) : Nat := (488 * t + 99) / 100

theorem runStart_le_iff (t u : Nat) : runStart t ≤ u ↔ 488 * t ≤ 100 * u := by
  unfold runStart
  omega

/-- A tick is 4.88 microseconds, so the run of a count holds 4 or 5 inputs. -/
theorem runStart_succ (t : Nat) : runStart (t + 1) = runStart t + 4 ∨ runStart (t + 1) = runStart t + 5 := by
  unfold runStart
  omega

theorem microsecondsToTicks_toNat_eq_iff_run {us : Micros} {t : Nat} (ht : t < 4095) :
    (microsecondsToTicks us).toNat = t ↔ runStart t ≤ us.toNat ∧ us.toNat < runStart (t + 1) := by
  rw [microsecondsToTicks_toNat_eq_iff ht, runStart_le_iff, ← Nat.not_le, ← Nat.not_le, runStart_le_iff]

theorem exists_run {t : Nat} (ht : t < 4095) : ∃ u n, (n = 4 ∨ n = 5) ∧
    ∀ us : Micros, (microsecondsToTicks us).toNat = t ↔ u ≤ us.toNat ∧ us.toNat < u + n := by
  rcases runStart_succ t with hnext | hnext
  · exact ⟨runStart t, 4, Or.inl rfl, fun us => hnext ▸ microsecondsToTicks_toNat_eq_iff_run ht⟩
  · exact ⟨runStart t, 5, Or.inr rfl, fun us => hnext ▸ microsecondsToTicks_toNat_eq_iff_run ht⟩

/-- The high byte of a count is its quotient by 256: the count's upper 4 bits (R64 (b)). -/
theorem ticksHigh_toNat (t : Ticks) : (ticksHigh t).toNat = t.toNat / 256 := by
  rw [Responses.ticksHigh_eq_ofNat, BitVec.toNat_ofNat]
  omega

/-! ### Equivalent forms (R65) -/

/-- (a): the fraction 100/488 in lowest terms. -/
theorem mul_hundred_div_eq (n : Nat) : n * 100 / 488 = n * 25 / 122 := by omega

/-- (b): split at the threshold. -/
theorem microsecondsToTicks_toNat_eq_ite (us : Micros) :
    (microsecondsToTicks us).toNat = if 19984 ≤ us.toNat then 4095 else us.toNat * 100 / 488 := by
  split
  · next hge => rw [microsecondsToTicks_of_ge hge]; rfl
  · next hlt => exact microsecondsToTicks_toNat_of_lt (Nat.lt_of_not_le hlt)

/-- (c): up to 42949672 the product is below 2^32 and the wrap does nothing. -/
theorem mul_hundred_mod_of_le {n : Nat} (h : n ≤ 42949672) : n * 100 % 2 ^ 32 = n * 100 :=
  Nat.mod_eq_of_lt (by omega)

/-! ### CONV (R59) -/

theorem exec_conv (us : Micros) (s : State) :
    exec (.conv us) s = .next { s with trace := s.trace ++ [Event.resp .ok (microsecondsToTicks us)] } := rfl

/-! ### The statements (R58 to R65) -/

/-- Settles O16: CONV's answer, with the count written out. -/
theorem convAnswersTheTicks : Obligations.ConvAnswersTheTicks := by
  unfold Obligations.ConvAnswersTheTicks
  intro us s
  rw [exec_conv, microsecondsToTicks_eq_ofNat]

/-- Settles O17: both thresholds are instances of when the conversion reaches a count (4095 and 1). -/
theorem converterThresholds : Obligations.ConverterThresholds := by
  unfold Obligations.ConverterThresholds
  intro us
  refine ⟨microsecondsToTicks_eq_tickMax_iff us,
    fun hle => ⟨microsecondsToTicks_toNat_of_lt (Nat.lt_succ_of_le hle), ?_⟩, ?_, ?_,
    microsecondsToTicks_eq_zero_iff us, exec_conv us⟩ <;> omega

/-- Settles O18: one lemma per property; the answer of CONV is what it emits, which does not read the state. -/
theorem converterProperties : Obligations.ConverterProperties := by
  unfold Obligations.ConverterProperties
  refine ⟨fun us => ?_, fun _ _ => microsecondsToTicks_mono, fun us hle => ?_, fun _ _ => microsecondsToTicks_succ,
    fun _ => exists_run, fun us s s' t t' ht ht' =>
      ⟨.resp .ok (microsecondsToTicks us), exec_trace ht, exec_trace ht'⟩⟩
  · have hle := microsecondsToTicks_le_tickMax us
    rw [ticksHigh_toNat]
    omega
  · have hlt : (microsecondsToTicks us).toNat < 4095 := by
      rw [microsecondsToTicks_toNat]
      omega
    exact (microsecondsToTicks_toNat_eq_iff hlt).mp rfl

/-- Settles O19: each form agrees with the conversion by its own lemma; (c) fails at inputs whose product wraps to
less than 488. -/
theorem converterEquivalentForms : Obligations.ConverterEquivalentForms := by
  unfold Obligations.ConverterEquivalentForms
  refine ⟨fun us => ⟨?_, microsecondsToTicks_toNat_eq_ite us, fun hlt => ?_, fun hle => ?_⟩,
    by decide, microsecondsToTicks_of_ge (by decide), by decide, microsecondsToTicks_of_ge (by decide)⟩
  · rw [microsecondsToTicks_toNat, mul_hundred_div_eq]
  · omega
  · rw [microsecondsToTicks_toNat, mul_hundred_mod_of_le hle]

end Sys2Proof.Proofs.Converter
end

section
/-! PROOFS. The INIT command (42_initialize.md R67 to R76): its six steps as one update, its stages, and what a second
INIT does. -/

namespace Sys2Proof.Proofs.Initialize

open Sys2Proof.Machine Sys2Proof.Laws Sys2Proof.Proofs.Rules Sys2Proof.Proofs.Shadow Sys2Proof.Proofs.Gate

/-! ### Writes to the shadow, in another order and again (R22) -/

theorem write_write_comm_of_lt (m : Memory) {a b : Nat} (hab : a < b) (u v : Byte) :
    Memory.write (Memory.write m a u) b v = Memory.write (Memory.write m b v) a u := by
  have hba : ¬ b < a := Nat.lt_asymm hab
  have hne : b ≠ a := Nat.ne_of_gt hab
  induction m with
  | nil => simp [Memory.write, hab, hba, hne]
  | cons cell rest ih =>
    obtain ⟨x, w⟩ := cell
    obtain hax | rfl | hxa := Nat.lt_trichotomy a x
    · obtain hbx | rfl | hxb := Nat.lt_trichotomy b x
      · simp [Memory.write, hax, hbx, hab, hba, hne]
      · simp [Memory.write, hab, hba, hne]
      · simp [Memory.write, hax, hba, hne, Nat.lt_asymm hxb, Nat.ne_of_gt hxb]
    · simp [Memory.write, hba, hne]
    · have hxb : x < b := Nat.lt_trans hxa hab
      simp [Memory.write, Nat.lt_asymm hxa, Nat.ne_of_gt hxa, Nat.lt_asymm hxb, Nat.ne_of_gt hxb, ih]

/-- Of INIT's writes to a chip those to 0xFE and the last to 0x00 remain (R70 to R72). -/
theorem initRegs_eq (p : OpenParams) (m : Memory) :
    initRegs p m =
      Memory.write (Memory.write m (0xFE : Byte).toNat 0x79) (0x00 : Byte).toNat p.modeAiAllcall := by
  rw [initRegs, write_write_comm_of_lt m (by decide), write_write_same]

@[simp] theorem initRegs_initRegs (p : OpenParams) (m : Memory) : initRegs p (initRegs p m) = initRegs p m := by
  rw [initRegs_eq p m, initRegs_eq, ← write_write_comm_of_lt m (by decide), write_write_same,
    write_write_comm_of_lt m (by decide), write_write_same]

/-! ### INIT as one update of the state (R67, R74) -/

theorem exec_init (s : State) :
    exec .init s = .next
      { s with phaseA := .awake, phaseB := .awake, gateDir := s.useGate || s.gateDir,
               gateLevel0 := if s.useGate then some .high else s.gateLevel0,
               gateLevel1 := if s.useGate then some .high else s.gateLevel1,
               trace := s.trace ++ emitted .init s,
               chipA := initRegs s.params s.chipA, chipB := initRegs s.params s.chipB } := by
  refine (execInit_eq s).trans ?_
  simp [afterInit_eq, State.respond, State.emit, emitted]

/-- The answer that ends a command sends no chip anything (R46). -/
@[simp] theorem sentByte_respond (s : State) (st : Status) (d : BitVec 12) (c : Chip) (reg : Byte) :
    sentByte (s.respond st d) c reg = sentByte s c reg := by cases c <;> rfl

theorem sentByte_exec_init {s t : State} (h : exec .init s = .next t) (c : Chip) (reg : Byte) :
    sentByte t c reg =
      if reg = 0x00 then some s.params.modeAiAllcall else if reg = 0xFE then some 0x79 else sentByte s c reg := by
  obtain rfl := Host.Outcome.next.inj ((execInit_eq s).symm.trans h)
  rw [sentByte_respond, sentByte_afterInit]

theorem exec_sameConfig {i : Instr} {s t : State} (h : exec i s = .next t) : SameConfig s t :=
  (sameConfig_kept s).keptByCommands.exec ⟨rfl, rfl, rfl, rfl⟩ h

/-- The events of INIT are a function of the configuration and the open parameters (R76). -/
theorem emitted_init_congr {s t : State} (h : SameConfig s t) : emitted .init t = emitted .init s := by
  obtain ⟨haddrA, haddrB, hgate, hparams⟩ := h
  simp [emitted, initEvents, muteEvents, haddrA, haddrB, hgate, hparams]

/-- R73: the wait is at least 100 ms. -/
theorem tStab_ge (p : OpenParams) : 100000 ≤ p.tStab := Nat.le_add_right _ _

/-- R69: with gating in use the outputs are disabled after INIT. -/
theorem outputEnableState_exec_init {s t : State} (h : exec .init s = .next t) (hg : s.useGate = true) :
    outputEnableState t = some .disabled := by
  obtain rfl := Host.Outcome.next.inj ((exec_init s).symm.trans h)
  simp [outputEnableState, hg]

/-- The state INIT ends in is one that INIT changes no more, but for the trace (R76). -/
theorem exec_init_again {s t : State} (h : exec .init s = .next t) :
    exec .init t = .next { t with trace := t.trace ++ emitted .init s } := by
  have hevents := emitted_init_congr (exec_sameConfig h)
  obtain rfl := Host.Outcome.next.inj ((exec_init s).symm.trans h)
  rw [exec_init, hevents]
  cases s.useGate <;> simp

/-! ### The statements (R67 to R76) -/

/-- Settles O20: the fields are those of `exec_init`, the events those of `emitted`, and the registers those of
`sentByte_exec_init`. -/
theorem initRunsTheSixSteps : Obligations.InitRunsTheSixSteps := by
  unfold Obligations.InitRunsTheSixSteps
  intro s
  refine ⟨_, exec_init s, ?_, tStab_ge s.params, rfl, rfl, fun hg => by simp [hg], fun hg => by simp [hg],
    rfl, rfl, rfl, rfl, rfl, rfl, fun c => ⟨?_, ?_, fun reg hmode hprescale => ?_⟩⟩
  · simp [emitted, initEvents, muteEvents]
  · rw [sentByte_exec_init (exec_init s), if_pos rfl]
  · rw [sentByte_exec_init (exec_init s), if_neg (by decide), if_pos rfl]
  · rw [sentByte_exec_init (exec_init s), if_neg hmode, if_neg hprescale]

/-- Settles O21: INIT and its stages are defined so; at the half of a stage the write to chip A has left chip B's phase
and both addresses alone, and so has the write to chip B left chip A's phase. -/
theorem initStagesMoveThePhases : Obligations.InitStagesMoveThePhases := by
  unfold Obligations.InitStagesMoveThePhases
  refine ⟨execInit_eq, fun s => ⟨rfl, rfl, rfl⟩, fun s half reg v p hhalf => ?_⟩
  subst hhalf
  refine ⟨rfl, rfl, ?_, ?_, ?_, rfl, ?_⟩
  · rw [setPhase_a_phaseB, memWrite_phaseB]
  · rw [setPhase_a_trace, memWrite_trace, busAddr_a]
  · rw [writeBothChips_eq]
  · simp [writeBothChips_eq]

/-- Settles O22: the events depend on the configuration only, and the state after INIT is a fixed point but for the
trace. -/
theorem initIsIdempotent : Obligations.InitIsIdempotent := by
  unfold Obligations.InitIsIdempotent
  exact ⟨fun s _ h => ⟨emitted .init s, exec_trace h, exec_init_again h⟩,
    fun s _ _ _ h h' haddrA haddrB hgate hparams => ⟨emitted .init s, exec_trace h,
      emitted_init_congr ⟨haddrA, haddrB, hgate, hparams⟩ ▸ exec_trace h'⟩,
    fun _ _ => outputEnableState_exec_init⟩

end Sys2Proof.Proofs.Initialize
end

section
/-! PROOFS. ENABLE and DISABLE, and the gating machine (43_gating.md R78 to R85). -/

namespace Sys2Proof.Proofs.GatingMachine

open Sys2Proof.Machine Sys2Proof.Laws Sys2Proof.Safety Sys2Proof.Proofs.Rules Sys2Proof.Proofs.Shadow
  Sys2Proof.Proofs.Gate Sys2Proof.Proofs.Initialize

/-! ### ENABLE and DISABLE (R79 to R83) -/

/-- The two gating commands, each with the level it drives (R79, R80). -/
def Drives (i : Instr) (l : Level) : Prop := i = .enable ∧ l = .low ∨ i = .disable ∧ l = .high

theorem exists_drives {i : Instr} (h : i = .enable ∨ i = .disable) : ∃ l, Drives i l := by
  obtain rfl | rfl := h
  · exact ⟨.low, Or.inl ⟨rfl, rfl⟩⟩
  · exact ⟨.high, Or.inr ⟨rfl, rfl⟩⟩

/-- A gating command completes in every state (R81). -/
theorem exec_of_drives {i : Instr} {l : Level} (h : Drives i l) (s : State) : exec i s = .next (gateCommand l s) := by
  obtain ⟨rfl, rfl⟩ | ⟨rfl, rfl⟩ := h
  · rfl
  · rfl

theorem eq_gateCommand_of_exec {i : Instr} {l : Level} {s t : State} (h : Drives i l) (ht : exec i s = .next t) :
    t = gateCommand l s := Host.Outcome.next.inj (ht.symm.trans (exec_of_drives h s))

theorem gateCommand_of_gated (l : Level) {s : State} (hg : s.useGate = true) :
    gateCommand l s =
      { s with trace := s.trace ++ [Event.pinWrite .g0 l, Event.pinWrite .g1 l, Event.resp .ok 0],
               gateLevel0 := some l, gateLevel1 := some l } := (gateCommand_eq l s).trans (if_pos hg)

theorem gateCommand_of_ungated (l : Level) {s : State} (hg : s.useGate = false) :
    gateCommand l s = { s with trace := s.trace ++ [Event.resp .fail 0] } := by
  rw [gateCommand_eq, hg]
  rfl

theorem gateCommand_setPhases (l : Level) (s : State) (p q : Phase) :
    gateCommand l { s with phaseA := p, phaseB := q } = { gateCommand l s with phaseA := p, phaseB := q } := by
  rw [gateCommand_eq, gateCommand_eq]
  cases s.useGate with
  | false => rfl
  | true => rfl

/-- With gating in use the events hold the command's level for either pin, and no other pin event (R82). -/
theorem gateEvents_of_gated {l l' : Level} (hne : l' ≠ l) {s : State} (hg : s.useGate = true) :
    Event.resp .ok 0 ∈ gateEvents l s ∧
      ∀ g : Pin, Event.pinWrite g l ∈ gateEvents l s ∧ Event.pinWrite g l' ∉ gateEvents l s ∧
        Event.pinMode g ∉ gateEvents l s := by
  rw [gateEvents, if_pos hg]
  refine ⟨by simp, fun g => ⟨?_, by simp [hne], by simp⟩⟩
  cases g with
  | g0 => simp
  | g1 => simp

/-- Settles O23: ENABLE is the gating command at low. -/
theorem enableDrivesBothPinsLow : Obligations.EnableDrivesBothPinsLow := by
  unfold Obligations.EnableDrivesBothPinsLow
  exact fun s => ⟨fun hg => congrArg Host.Outcome.next (gateCommand_of_gated .low hg),
    fun hg => congrArg Host.Outcome.next (gateCommand_of_ungated .low hg)⟩

/-- Settles O24: DISABLE is the gating command at high. -/
theorem disableDrivesBothPinsHigh : Obligations.DisableDrivesBothPinsHigh := by
  unfold Obligations.DisableDrivesBothPinsHigh
  exact fun s => ⟨fun hg => congrArg Host.Outcome.next (gateCommand_of_gated .high hg),
    fun hg => congrArg Host.Outcome.next (gateCommand_of_ungated .high hg)⟩

/-- Settles O25: without gating the command only answers FAIL, and its events read `USE_GATE` and no other field. -/
theorem gateAnswerDependsOnUseGateAlone : Obligations.GateAnswerDependsOnUseGateAlone := by
  unfold Obligations.GateAnswerDependsOnUseGateAlone
  intro i hi
  obtain ⟨l, hl⟩ := exists_drives hi
  refine ⟨fun s hg => ?_, fun s s' hgate =>
    ⟨gateEvents l s, _, _, exec_of_drives hl s, exec_of_drives hl s', gateCommand_trace l s, ?_⟩⟩
  · rw [exec_of_drives hl, gateCommand_of_ungated l hg]
  · rw [gateCommand_trace, gateEvents, gateEvents, hgate]

/-- Settles O55: the events of a gating command, by `USE_GATE`. -/
theorem gateLevelsAreOpposite : Obligations.GateLevelsAreOpposite := by
  unfold Obligations.GateLevelsAreOpposite
  intro s i l l' hi
  have hcommand : Drives i l ∧ l' ≠ l := by
    obtain ⟨rfl, rfl, rfl⟩ | ⟨rfl, rfl, rfl⟩ := hi
    · exact ⟨Or.inl ⟨rfl, rfl⟩, nofun⟩
    · exact ⟨Or.inr ⟨rfl, rfl⟩, nofun⟩
  obtain ⟨hl, hne⟩ := hcommand
  refine ⟨gateEvents l s, _, exec_of_drives hl s, gateCommand_trace l s, fun hg => ?_, gateEvents_of_gated hne⟩
  rw [gateEvents, hg]
  rfl

/-! ### The gating registers (R13 to R15, R78) -/

/-- The registers of each row of R78. -/
def InRow (g : Gating) (s : State) : Prop :=
  match g with
  | .absent => s.useGate = false ∧ s.gateDir = false ∧ s.gateLevel0 = none ∧ s.gateLevel1 = none
  | .undriven => s.useGate = true ∧ s.gateDir = false
  | .disabled => s.useGate = true ∧ s.gateDir = true ∧ s.gateLevel0 = some .high ∧ s.gateLevel1 = some .high
  | .enabled => s.useGate = true ∧ s.gateDir = true ∧ s.gateLevel0 = some .low ∧ s.gateLevel1 = some .low

theorem inRow_of_gatingState {g : Gating} {s : State} (h : gatingState s = some g) : InRow g s := by
  unfold gatingState at h
  split at h
  · next hg hd h0 h1 => cases h; exact ⟨hg, hd, h0, h1⟩
  · next hg hd => cases h; exact ⟨hg, hd⟩
  · next hg hd h0 h1 => cases h; exact ⟨hg, hd, h0, h1⟩
  · next hg hd h0 h1 => cases h; exact ⟨hg, hd, h0, h1⟩
  · exact nomatch h

theorem gatingState_of_inRow {g : Gating} {s : State} (h : InRow g s) : gatingState s = some g := by
  unfold gatingState
  cases g with
  | undriven => obtain ⟨hg, hd⟩ := h; rw [hg, hd]
  | absent | disabled | enabled => obtain ⟨hg, hd, h0, h1⟩ := h; rw [hg, hd, h0, h1]

/-- Gating is in use in every row but the first. -/
theorem useGate_of_gatingState {g : Gating} {s : State} (h : gatingState s = some g) :
    s.useGate = !decide (g = .absent) := by
  have hrow := inRow_of_gatingState h
  cases g with
  | absent | undriven | disabled | enabled => exact hrow.1

theorem outputEnableState_of_ungated {s : State} (hg : s.useGate = false) : outputEnableState s = none := if_pos hg

theorem outputEnableState_of_undirected {s : State} (hd : s.gateDir = false) : outputEnableState s = none := by
  simp [outputEnableState, hd]

/-- The outputs are enabled in the last row of R78 and in no other state (R15). -/
theorem outputEnableState_eq_enabled_iff {s : State} : outputEnableState s = some .enabled ↔ InRow .enabled s := by
  cases hg : s.useGate with
  | false => simp [outputEnableState_of_ungated hg, InRow, hg]
  | true =>
    cases hd : s.gateDir with
    | false => simp [outputEnableState_of_undirected hd, InRow, hd]
    | true =>
      obtain ⟨-, -, houtputs⟩ := outputEnableStateIsDerived s
      obtain ⟨henabled, -⟩ := houtputs hg hd
      simp [henabled, InRow, hg, hd]

/-- The gating registers of two states are the same (R11, R13, R14). -/
def SameGating (s t : State) : Prop :=
  t.useGate = s.useGate ∧ t.gateDir = s.gateDir ∧ t.gateLevel0 = s.gateLevel0 ∧ t.gateLevel1 = s.gateLevel1

theorem gatingState_congr {s t : State} (h : SameGating s t) : gatingState t = gatingState s := by
  obtain ⟨hg, hd, h0, h1⟩ := h
  rw [gatingState, gatingState, hg, hd, h0, h1]

theorem outputEnableState_congr {s t : State} (h : SameGating s t) : outputEnableState t = outputEnableState s := by
  obtain ⟨hg, hd, h0, h1⟩ := h
  rw [outputEnableState, outputEnableState, hg, hd, h0, h1]

theorem writeOffTicks_sameGating (s : State) (ch : Channel) (t : Ticks) : SameGating s (writeOffTicks s ch t) :=
  ⟨memWrite_useGate .., memWrite_gateDir .., memWrite_gateLevel0 .., memWrite_gateLevel1 ..⟩

/-- LOOKUP, CONV and SETPULSE write no gating register (R84). -/
theorem exec_sameGating {i : Instr} {s t : State} (h : exec i s = .next t)
    (hinit : i ≠ .init) (henable : i ≠ .enable) (hdisable : i ≠ .disable) : SameGating s t := by
  obtain (⟨ch, -, rfl⟩ | ⟨us, -, rfl⟩) | ⟨rfl, -⟩ | (⟨rfl, -⟩ | ⟨rfl, -⟩) | ⟨ch, us, -, -, rfl⟩ := exec_next i s t h
  · exact ⟨rfl, rfl, rfl, rfl⟩
  · exact ⟨rfl, rfl, rfl, rfl⟩
  · exact absurd rfl hinit
  · exact absurd rfl henable
  · exact absurd rfl hdisable
  · exact writeOffTicks_sameGating s ch _

/-- Nor do they touch a pin. -/
theorem emitted_no_pinEvent_of_ungating {i : Instr} (s : State)
    (hinit : i ≠ .init) (henable : i ≠ .enable) (hdisable : i ≠ .disable) :
    (emitted i s).filter isPinEvent = [] := by
  cases i with
  | lookup | conv | setpulse => rfl
  | init => exact absurd rfl hinit
  | enable => exact absurd rfl henable
  | disable => exact absurd rfl hdisable

/-! ### INIT on the gating registers (R69) -/

theorem execInit_gateLevels {s t : State} (h : exec .init s = .next t) (hg : s.useGate = true) :
    t.gateLevel0 = some .high ∧ t.gateLevel1 = some .high := by
  obtain rfl := Host.Outcome.next.inj ((exec_init s).symm.trans h)
  exact ⟨if_pos hg, if_pos hg⟩

theorem execInit_sameGating_of_ungated {s t : State} (h : exec .init s = .next t) (hg : s.useGate = false) :
    SameGating s t := by
  obtain rfl := Host.Outcome.next.inj ((exec_init s).symm.trans h)
  simp [SameGating, hg]

/-- After INIT with gating in use the pins are outputs, both high. -/
theorem gatingState_execInit_of_gated {s t : State} (h : exec .init s = .next t) (hg : s.useGate = true) :
    gatingState t = some .disabled := by
  obtain ⟨h0, h1⟩ := execInit_gateLevels h hg
  obtain ⟨-, -, hd⟩ := execInit_phasesAndDir h
  obtain ⟨-, -, hgate, -⟩ := exec_sameConfig h
  exact gatingState_of_inRow ⟨hgate.trans hg, by rw [hd, hg]; rfl, h0, h1⟩

theorem initEvents_filter_isPinEvent (s : State) : (initEvents s).filter isPinEvent = muteEvents s := by
  cases hg : s.useGate with
  | false => rw [initEvents, muteEvents, hg]; rfl
  | true => rw [initEvents, muteEvents, hg]; rfl

/-- Settles O26: the command loads both latches and writes no direction; INIT then loads high. -/
theorem gateCommandsBeforeInitLoadTheLatchOnly : Obligations.GateCommandsBeforeInitLoadTheLatchOnly := by
  unfold Obligations.GateCommandsBeforeInitLoadTheLatchOnly
  intro s t i l hi hg hd ht
  obtain rfl := eq_gateCommand_of_exec hi ht
  rw [gateCommand_of_gated l hg]
  exact ⟨rfl, rfl, rfl, hd, outputEnableState_of_undirected hd, fun u hu => execInit_gateLevels hu hg⟩

/-! ### The transitions of the gating machine (R84, R85) -/

/-- The row INIT leads to, and its pin events. -/
theorem gatingState_execInit {s t : State} {g : Gating} (hs : gatingState s = some g) (h : exec .init s = .next t) :
    gatingState t = some (if g = .absent then .absent else .disabled) := by
  have hg := useGate_of_gatingState hs
  by_cases habsent : g = .absent
  · subst habsent
    exact (gatingState_congr (execInit_sameGating_of_ungated h hg)).trans hs
  · rw [if_neg habsent]
    exact gatingState_execInit_of_gated h (by simp [hg, habsent])

theorem muteEvents_of_gatingState {s : State} {g : Gating} (hs : gatingState s = some g) :
    muteEvents s = if g = .absent then [] else
      [.pinMode .g0, .pinMode .g1, .pinWrite .g0 .high, .pinWrite .g1 .high] := by
  rw [muteEvents, useGate_of_gatingState hs]
  by_cases habsent : g = .absent
  · simp [habsent]
  · simp [habsent]

/-- The row of R78 in which the pins are outputs at a level. -/
def drivenRow (l : Level) : Gating :=
  match l with
  | .low => .enabled
  | .high => .disabled

theorem directed_of_gatingState {g : Gating} {s : State} (h : gatingState s = some g)
    (hg : g = .disabled ∨ g = .enabled) : s.useGate = true ∧ s.gateDir = true := by
  obtain rfl | rfl := hg
  · obtain ⟨hgate, hdir, -⟩ := inRow_of_gatingState h
    exact ⟨hgate, hdir⟩
  · obtain ⟨hgate, hdir, -⟩ := inRow_of_gatingState h
    exact ⟨hgate, hdir⟩

theorem gatingState_gateCommand_of_directed (l : Level) {s : State} (hg : s.useGate = true) (hd : s.gateDir = true) :
    gatingState (gateCommand l s) = some (drivenRow l) := by
  rw [gateCommand_of_gated l hg]
  cases l with
  | low => exact gatingState_of_inRow ⟨hg, hd, rfl, rfl⟩
  | high => exact gatingState_of_inRow ⟨hg, hd, rfl, rfl⟩

/-- Settles O27: reset is by definition; INIT by the row it leads to; ENABLE and DISABLE by the rows they find; and the
other commands write no gating register. -/
theorem gatingTransitions : Obligations.GatingTransitions := by
  unfold Obligations.GatingTransitions
  refine ⟨fun _ _ _ => ⟨rfl, rfl, rfl, rfl, fun _ => rfl⟩, fun s t g hs h => ⟨gatingState_execInit hs h,
    initEvents s, by rw [exec_trace h, emitted, List.append_assoc], ?_⟩, fun s t g i l g' hs hi h => ?_,
    fun s t i hinit henable hdisable h => ?_⟩
  · rw [initEvents_filter_isPinEvent, muteEvents_of_gatingState hs]
  · have hcommand : Drives i l ∧ g' = drivenRow l := by
      obtain ⟨rfl, rfl, rfl⟩ | ⟨rfl, rfl, rfl⟩ := hi
      · exact ⟨Or.inl ⟨rfl, rfl⟩, rfl⟩
      · exact ⟨Or.inr ⟨rfl, rfl⟩, rfl⟩
    obtain ⟨hl, rfl⟩ := hcommand
    obtain rfl := eq_gateCommand_of_exec hl h
    refine ⟨?_, ?_, fun hdriven => ?_, fun hpresent => ?_⟩
    · rintro rfl
      obtain ⟨hg, -⟩ := inRow_of_gatingState hs
      rw [gateCommand_of_ungated l hg]
      exact ⟨hs, rfl⟩
    · rintro rfl
      obtain ⟨hg, hd⟩ := inRow_of_gatingState hs
      rw [gateCommand_of_gated l hg]
      exact ⟨gatingState_of_inRow ⟨hg, hd⟩, rfl, rfl⟩
    · obtain ⟨hg, hd⟩ := directed_of_gatingState hs hdriven
      exact gatingState_gateCommand_of_directed l hg hd
    · have hg : s.useGate = true := by simp [useGate_of_gatingState hs, hpresent]
      rw [gateCommand_of_gated l hg]
  · have hsame := exec_sameGating h hinit henable hdisable
    obtain ⟨-, -, h0, h1⟩ := id hsame
    exact ⟨gatingState_congr hsame, h0, h1, emitted i s, exec_trace h,
      emitted_no_pinEvent_of_ungating s hinit henable hdisable⟩

/-- DISABLE leaves the outputs not enabled, whatever they were. -/
theorem not_enabled_gateCommand_high (s : State) : ¬ InRow .enabled (gateCommand .high s) := by
  rintro ⟨hgate, -, h0, -⟩
  cases hg : s.useGate with
  | false =>
    rw [gateCommand_of_ungated .high hg] at hgate
    exact nomatch hg.symm.trans hgate
  | true =>
    rw [gateCommand_of_gated .high hg] at h0
    exact nomatch h0

/-- So does INIT. -/
theorem not_enabled_execInit {s t : State} (h : exec .init s = .next t) : ¬ InRow .enabled t := by
  rintro ⟨hgate, -, h0, -⟩
  obtain ⟨-, -, hsame, -⟩ := exec_sameConfig h
  obtain ⟨hhigh, -⟩ := execInit_gateLevels h (hsame.symm.trans hgate)
  exact nomatch h0.symm.trans hhigh

/-- Settles O29: INIT and DISABLE leave the outputs not enabled, and the other commands write no gating register. -/
theorem onlyEnableEnablesTheOutputs : Obligations.OnlyEnableEnablesTheOutputs := by
  unfold Obligations.OnlyEnableEnablesTheOutputs
  intro i s t henable h ht
  by_cases hinit : i = .init
  · subst hinit
    exact absurd (outputEnableState_eq_enabled_iff.mp ht) (not_enabled_execInit h)
  by_cases hdisable : i = .disable
  · obtain rfl := eq_gateCommand_of_exec (Or.inr ⟨hdisable, rfl⟩) h
    exact absurd (outputEnableState_eq_enabled_iff.mp ht) (not_enabled_gateCommand_high s)
  · rw [← ht, outputEnableState_congr (exec_sameGating h hinit henable hdisable)]

theorem exec_setpulse_of_awake {ch : Channel} {s : State} (h : s.phase (chipOf ch) = .awake) (us : Micros) :
    exec (.setpulse ch us) s = .next ((writeOffTicks s ch (microsecondsToTicks us)).respond .ok 0) := if_pos h

/-- The transaction of SETPULSE neither reads nor writes a gating register (R85). -/
theorem writeOffTicks_setGating (s : State) (ch : Channel) (n : Ticks) (g d : Bool) (l0 l1 : Option Level) :
    writeOffTicks { s with useGate := g, gateDir := d, gateLevel0 := l0, gateLevel1 := l1 } ch n =
      { writeOffTicks s ch n with useGate := g, gateDir := d, gateLevel0 := l0, gateLevel1 := l1 } := by
  rw [writeOffTicks_eq_memWrite, writeOffTicks_eq_memWrite]
  cases chipOf ch with
  | a => rfl
  | b => rfl

/-- Settles O30: the gating commands commute with a change of the phases, SETPULSE with one of the gating registers. -/
theorem gatingAndPhaseAreIndependent : Obligations.GatingAndPhaseAreIndependent := by
  unfold Obligations.GatingAndPhaseAreIndependent
  refine ⟨fun s t i p q hi h => ?_, fun s t ch us g d l0 l1 h => ?_⟩
  · obtain ⟨l, hl⟩ := exists_drives hi
    obtain rfl := eq_gateCommand_of_exec hl h
    obtain ⟨hphaseA, hphaseB, -⟩ := gateCommand_samePhasesAndDir l s
    exact ⟨hphaseA, hphaseB, by rw [exec_of_drives hl, gateCommand_setPhases]⟩
  · obtain ⟨hawake, rfl⟩ := execSetpulse_next ch us s t h
    have hphase : State.phase { s with useGate := g, gateDir := d, gateLevel0 := l0, gateLevel1 := l1 } (chipOf ch) =
        .awake := by
      rw [← hawake, RegisterMap.lookup_cs]
      cases chipOf ch with
      | a => rfl
      | b => rfl
    rw [exec_setpulse_of_awake hphase, writeOffTicks_setGating]
    rfl

end Sys2Proof.Proofs.GatingMachine
end

section
/-! PROOFS. The output of a channel after its pulse, when every transaction was delivered (60_exceptions.md R109,
70_reset_and_hazards.md R126). -/

namespace Sys2Proof.Proofs.PulseOutput

open Sys2Proof.Machine Sys2Proof.Laws Sys2Proof.Proofs.Rules Sys2Proof.Proofs.Shadow Sys2Proof.Proofs.Gate
  Sys2Proof.Proofs.GatingMachine

/-! ### The count a chip received -/

/-- The two off bytes hold the whole count (R27, R87). -/
theorem ticksHigh_append_ticksLow (t : Ticks) : (ticksHigh t).setWidth 4 ++ ticksLow t = t := by
  rw [ticksHigh, ticksLow, BitVec.setWidth_setWidth_of_le _ (by decide), BitVec.setWidth_eq,
    BitVec.extractLsb'_append_extractLsb'_eq_extractLsb' (by decide), BitVec.extractLsb'_eq_self]

/-- A transaction at the off bytes of a channel leaves its count there. -/
theorem ticksOf_writeBytes (m : Memory) (ch : Channel) (t : Ticks) :
    ticksOf (Memory.writeBytes m (baseOf ch + 2) [ticksLow t, ticksHigh t]) ch = some t := by
  have hnext : baseOf ch + 2 + 1 = baseOf ch + 3 := by bv_omega
  have hread (reg : Byte) : Memory.read (Memory.writeBytes m (baseOf ch + 2) [ticksLow t, ticksHigh t]) reg.toNat =
      if reg = baseOf ch + 3 then some (ticksHigh t)
      else if reg = baseOf ch + 2 then some (ticksLow t) else Memory.read m reg.toNat := by
    rw [writeBytes_cons, writeBytes_cons, writeBytes_nil, hnext, read_write, read_write]
  have hlow := (hread (baseOf ch + offLow)).trans ((if_neg (offHigh_ne_offLow ch ch).symm).trans (if_pos rfl))
  have hhigh := (hread (baseOf ch + offHigh)).trans (if_pos rfl)
  simp only [ticksOf, hlow, hhigh, ticksHigh_append_ticksLow]

/-- The last transaction of a trace that was delivered whole is received last (R126). -/
theorem received_pulse {d : Delivery} {a : BusAddr} {t : List Event} {reg : Byte} {data : List Byte} {st : Status}
    {v : BitVec 12} (hd : everyDelivered d (t ++ [.busWrite a (reg :: data), .resp st v]) = true) :
    receivedFrom d a 0 [] (t ++ [.busWrite a (reg :: data), .resp st v]) =
      Memory.writeBytes (receivedFrom d a 0 [] t) reg data := by
  have hlast : d t.length = true := by
    rw [everyDelivered, everyDeliveredFrom_append] at hd
    obtain ⟨-, hrest⟩ := Bool.and_eq_true_iff.mp hd
    simpa [everyDeliveredFrom, isBusWrite] using hrest
  rw [receivedFrom_append]
  simp [receivedFrom, hlast, receive]

/-! ### The output of the channel (R109) -/

theorem outputAt_of_received {d : Delivery} {s : State} {ch : Channel} {n : Ticks} (k : Ticks)
    (hd : everyDelivered d s.trace = true) (hawake : s.phase (chipOf ch) = .awake)
    (hticks : ticksOf (received d s (chipOf ch)) ch = some n) :
    outputAt d s ch k =
      if n = 0 then none
      else if s.useGate = false ∨ outputEnableState s = some .enabled then some (decide (k.toNat < n.toNat))
      else if outputEnableState s = some .disabled then some false
      else none := by
  rw [outputAt, if_pos ⟨hd, hawake⟩, hticks]

theorem outputAt_of_lost {d : Delivery} {s : State} (hd : everyDelivered d s.trace = false) (ch : Channel)
    (k : Ticks) : outputAt d s ch k = none :=
  if_neg fun ⟨hall, _⟩ => nomatch hall.symm.trans hd

theorem phase_execSetpulse {ch : Channel} {us : Micros} {s t : State} (h : exec (.setpulse ch us) s = .next t) :
    t.phase (chipOf ch) = .awake := by
  obtain ⟨hawake, -⟩ := execSetpulse_next ch us s t h
  obtain ⟨hphaseA, hphaseB, -⟩ := exec_samePhasesAndDir h nofun
  rw [← hawake, RegisterMap.lookup_cs]
  cases chipOf ch with
  | a => exact hphaseA
  | b => exact hphaseB

theorem busAddr_of_exec {i : Instr} {s t : State} (h : exec i s = .next t) (c : Chip) : t.busAddr c = s.busAddr c := by
  obtain ⟨haddrA, haddrB, -⟩ := Initialize.exec_sameConfig h
  cases c with
  | a => exact haddrA
  | b => exact haddrB

/-- Everything delivered, the owning chip holds the count of the pulse (R87, R126). -/
theorem ticksOf_received_execSetpulse {ch : Channel} {us : Micros} {s t : State} {d : Delivery}
    (h : exec (.setpulse ch us) s = .next t) (hd : everyDelivered d t.trace = true) :
    ticksOf (received d t (chipOf ch)) ch = some (microsecondsToTicks us) := by
  have htrace := exec_trace h
  rw [htrace] at hd
  rw [received, busAddr_of_exec h, htrace, emitted, received_pulse hd, ticksOf_writeBytes]

/-- Settles O36: SETPULSE writes no gating register, so the rows of `outputAt` are those of the state before it, at the
count of the pulse. -/
theorem outputFollowsThePulse : Obligations.OutputFollowsThePulse := by
  unfold Obligations.OutputFollowsThePulse
  intro ch us s t h d k
  refine ⟨fun hd => ?_, fun hlost => outputAt_of_lost hlost ch k⟩
  have hsame := exec_sameGating h nofun nofun nofun
  obtain ⟨hgateSame, -⟩ := id hsame
  rw [outputAt_of_received k hd (phase_execSetpulse h) (ticksOf_received_execSetpulse h hd), hgateSame,
    outputEnableState_congr hsame]
  refine ⟨fun hcount henabled => ?_, fun hcount hdisabled => ?_, fun hcount hgate hnone => ?_,
    fun hzero => if_pos hzero⟩
  · rw [if_neg hcount, if_pos henabled]
  · have hgate : s.useGate ≠ false := fun hg =>
      nomatch (outputEnableState_of_ungated hg).symm.trans hdisabled
    rw [if_neg hcount, if_neg (by simp [hgate, hdisabled]), if_pos hdisabled]
  · rw [if_neg hcount, if_neg (by simp [hgate, hnone]), if_neg (by simp [hnone])]

end Sys2Proof.Proofs.PulseOutput
end

section
/-! PROOFS. SETPULSE: the command in full, its fault, and what it sends to which registers (44_set_pulse.md R87 to
R93). -/

namespace Sys2Proof.Proofs.SetPulse

open Sys2Proof.Machine Sys2Proof.Laws Sys2Proof.Proofs.Rules Sys2Proof.Proofs.Shadow Sys2Proof.Proofs.Gate
  Sys2Proof.Proofs.Responses Sys2Proof.Proofs.RegisterMap Sys2Proof.Proofs.Converter Sys2Proof.Proofs.GatingMachine
  Sys2Proof.Proofs.PulseOutput

/-! ### The command by the phase of the owning chip (R87, R92) -/

theorem chipOf_of_lt {ch : Channel} (h : ch.toNat < 16) : chipOf ch = .a := by
  rw [chipOf_eq, if_pos (by omega)]

theorem chipOf_of_ge {ch : Channel} (h : 16 ≤ ch.toNat) : chipOf ch = .b := by
  rw [chipOf_eq, if_neg (by omega)]

theorem exec_setpulse_of_not_awake {ch : Channel} {s : State} (h : s.phase (chipOf ch) ≠ .awake) (us : Micros) :
    exec (.setpulse ch us) s = .fault (.useBeforeInit (chipOf ch)) := if_neg h

/-- The two data bytes with the tick count of R58 written out. -/
theorem ticksLow_microsecondsToTicks (us : Micros) :
    ticksLow (microsecondsToTicks us) = BitVec.ofNat 8 (min (us.toNat * 100 / 488) 4095 % 256) := by
  rw [ticksLow_eq_ofNat, microsecondsToTicks_toNat]
  apply BitVec.eq_of_toNat_eq
  rw [BitVec.toNat_ofNat, BitVec.toNat_ofNat, Nat.mod_mod]

theorem ticksHigh_microsecondsToTicks (us : Micros) :
    ticksHigh (microsecondsToTicks us) = BitVec.ofNat 8 (min (us.toNat * 100 / 488) 4095 / 256) := by
  rw [ticksHigh_eq_ofNat, microsecondsToTicks_toNat]

/-- Settles O31: the owning chip by the channel's number, then its write primitive or its fault. -/
theorem setpulseWritesTheOffBytes : Obligations.SetpulseWritesTheOffBytes := by
  unfold Obligations.SetpulseWritesTheOffBytes
  rintro ch us s reg lo hi rfl rfl rfl
  rw [← offLow_eq_ofNat, ← ticksLow_microsecondsToTicks, ← ticksHigh_microsecondsToTicks]
  refine ⟨fun hch hawake => ?_, fun hch hawake => ?_, fun hch hasleep => ?_, fun hch hasleep => ?_⟩
  · have hchip := chipOf_of_lt hch
    rw [exec_setpulse_of_awake (by rwa [hchip]), writeOffTicks_eq_memWrite, hchip, memWrite_a]
    simp only [State.respond, State.emit, List.append_assoc, List.cons_append, List.nil_append]
  · have hchip := chipOf_of_ge hch
    rw [exec_setpulse_of_awake (by rwa [hchip]), writeOffTicks_eq_memWrite, hchip, memWrite_b]
    simp only [State.respond, State.emit, List.append_assoc, List.cons_append, List.nil_append]
  · have hchip := chipOf_of_lt hch
    rw [exec_setpulse_of_not_awake (by rwa [hchip]), hchip]
  · have hchip := chipOf_of_ge hch
    rw [exec_setpulse_of_not_awake (by rwa [hchip]), hchip]

/-! ### The fault is kept (R92) -/

theorem run_succ_of_step_fault {M : Host.Core} {s : M.State} {r : M.Fault} (h : M.step s = .fault r) (k : Nat) :
    M.run (k + 1) s = .fault r := by
  rw [Host.Core.run, h]

theorem phase_setPort (s : State) (rest : List CmdWord) (c : Chip) :
    State.phase { s with port := rest } c = s.phase c := by
  cases c <;> rfl

/-- Settles O32: the fault of the command is that of the step which runs it, and a run stops at the first fault. -/
theorem setpulseBeforeInitFaults : Obligations.SetpulseBeforeInitFaults := by
  unfold Obligations.SetpulseBeforeInitFaults
  refine fun ch us s hasleep =>
    ⟨exec_setpulse_of_not_awake hasleep us, fun w rest k hport hdecode => run_succ_of_step_fault (M := core) ?_ k⟩
  calc step s
    _ = exec (.setpulse ch us) { s with port := rest } := stepRunsTheDecodedCommand s w rest _ hport hdecode
    _ = .fault (.useBeforeInit (chipOf ch)) := exec_setpulse_of_not_awake (by rwa [phase_setPort]) us

/-! ### What a pulse sends, register by register (R88, R89) -/

@[simp] theorem memWrite_port (s : State) (c : Chip) (reg : Byte) (v : List Byte) :
    (s.memWrite c reg v).port = s.port := by cases c <;> rfl
@[simp] theorem memWrite_refusalMark (s : State) (c : Chip) (reg : Byte) (v : List Byte) :
    (s.memWrite c reg v).refusalMark = s.refusalMark := by cases c <;> rfl

section
variable {ch : Channel} {us : Micros} {s t : State} (h : exec (.setpulse ch us) s = .next t)
include h

theorem sentByte_exec_setpulse (c : Chip) (reg : Byte) :
    sentByte t c reg =
      if c = chipOf ch ∧ reg = baseOf ch + 3 then some (ticksHigh (microsecondsToTicks us))
      else if c = chipOf ch ∧ reg = baseOf ch + 2 then some (ticksLow (microsecondsToTicks us))
      else sentByte s c reg := by
  obtain ⟨-, rfl⟩ := execSetpulse_next ch us s t h
  rw [Initialize.sentByte_respond, sentByte_writeOffTicks]

theorem sentByte_exec_setpulse_offLow :
    sentByte t (chipOf ch) (baseOf ch + 2) = some (ticksLow (microsecondsToTicks us)) := by
  rw [sentByte_exec_setpulse h, if_neg fun hhigh => offHigh_ne_offLow ch ch hhigh.2.symm, if_pos ⟨rfl, rfl⟩]

theorem sentByte_exec_setpulse_offHigh :
    sentByte t (chipOf ch) (baseOf ch + 3) = some (ticksHigh (microsecondsToTicks us)) := by
  rw [sentByte_exec_setpulse h, if_pos ⟨rfl, rfl⟩]

theorem sentByte_exec_setpulse_of_not_offByte {c : Chip} {reg : Byte}
    (hreg : ¬ (c = chipOf ch ∧ (reg = baseOf ch + 2 ∨ reg = baseOf ch + 3))) :
    sentByte t c reg = sentByte s c reg := by
  rw [sentByte_exec_setpulse h, if_neg fun hhigh => hreg ⟨hhigh.1, Or.inr hhigh.2⟩,
    if_neg fun hlow => hreg ⟨hlow.1, Or.inl hlow.2⟩]

theorem exec_setpulse_port : t.port = s.port := by
  obtain ⟨-, rfl⟩ := execSetpulse_next ch us s t h
  rw [respond_port, writeOffTicks_eq_memWrite, memWrite_port]

theorem exec_setpulse_refusalMark : t.refusalMark = s.refusalMark := by
  obtain ⟨-, rfl⟩ := execSetpulse_next ch us s t h
  rw [respond_refusalMark, writeOffTicks_eq_memWrite, memWrite_refusalMark]

end

/-- Settles O33: no register of the block itself changes, and the shadow changes at the two off bytes only. -/
theorem setpulseFrame : Obligations.SetpulseFrame := by
  unfold Obligations.SetpulseFrame
  intro ch us s t h
  obtain ⟨haddrA, haddrB, -, hparams⟩ := Initialize.exec_sameConfig h
  obtain ⟨hphaseA, hphaseB, -⟩ := exec_samePhasesAndDir h nofun
  obtain ⟨huseGate, hgateDir, hlevel0, hlevel1⟩ := exec_sameGating h nofun nofun nofun
  rw [← ticksLow_eq_ofNat, ← ticksHigh_eq_ofNat]
  exact ⟨haddrA, haddrB, huseGate, hphaseA, hphaseB, hgateDir, hlevel0, hlevel1, exec_setpulse_port h, hparams,
    exec_setpulse_refusalMark h, sentByte_exec_setpulse_offLow h, sentByte_exec_setpulse_offHigh h,
    fun _ _ => sentByte_exec_setpulse_of_not_offByte h⟩

/-! ### The high byte (R90) -/

/-- The low nibble of the high byte is `t[11:8]`. -/
theorem ticksHigh_extractLsb'_low (t : Ticks) : (ticksHigh t).extractLsb' 0 4 = t.extractLsb' 8 4 := by
  rw [ticksHigh, BitVec.extractLsb'_setWidth_of_le (by decide), BitVec.extractLsb'_eq_self]

/-- Bit 4 and the bits above it are zero. -/
theorem ticksHigh_getLsbD_of_ge (t : Ticks) {i : Nat} (hi : 4 ≤ i) : (ticksHigh t).getLsbD i = false :=
  Nat.testBit_lt_two_pow (Nat.lt_of_lt_of_le (ticksHigh_lt t) (Nat.pow_le_pow_right Nat.two_pos hi))

theorem ticksHigh_extractLsb'_high (t : Ticks) : (ticksHigh t).extractLsb' 4 4 = 0 := by
  apply BitVec.eq_of_getLsbD_eq
  intro i hi
  rw [BitVec.getLsbD_extractLsb', ticksHigh_getLsbD_of_ge t (Nat.le_add_right 4 i), Bool.and_false]
  exact BitVec.getLsbD_zero.symm

/-- Settles O34: SETPULSE's one transaction carries the high byte third. -/
theorem pulseHighByteFitsTheLowNibble : Obligations.PulseHighByteFitsTheLowNibble := by
  unfold Obligations.PulseHighByteFitsTheLowNibble
  exact fun ch us s t h => ⟨_, _, _, _, exec_trace h, Nat.le_of_lt_succ (ticksHigh_lt _),
    ticksHigh_extractLsb'_high _, ticksHigh_extractLsb'_low _, ticksHigh_getLsbD_of_ge _ (Nat.le_refl 4)⟩

/-! ### Independence of the channels (R93) -/

theorem respond_chipRegs (s : State) (st : Status) (d : BitVec 12) (c : Chip) :
    (s.respond st d).chipRegs c = s.chipRegs c := by cases c <;> rfl

theorem sentTicks_exec_setpulse {ch : Channel} {us : Micros} {s t : State} (h : exec (.setpulse ch us) s = .next t) :
    sentTicks t ch = some (microsecondsToTicks us) := by
  obtain ⟨-, rfl⟩ := execSetpulse_next ch us s t h
  rw [sentTicks, respond_chipRegs, writeOffTicks_eq_memWrite, memWrite_chipRegs, if_pos rfl, ticksOf_writeBytes]

/-- The count last sent for a channel is what was last sent to its two off bytes (R22, R27). -/
theorem sentTicks_congr {s t : State} {ch : Channel} (h : ∀ reg, reg = baseOf ch + 2 ∨ reg = baseOf ch + 3 →
    sentByte t (chipOf ch) reg = sentByte s (chipOf ch) reg) :
    sentTicks t ch = sentTicks s ch := by
  simp only [sentByte] at h
  simp only [sentTicks, ticksOf, offLow, offHigh, h _ (Or.inl rfl), h _ (Or.inr rfl)]

/-- An off byte lies in the 4-byte block of its channel (R54). -/
theorem exists_offset_of_offByte {ch : Channel} {reg : Byte} (h : reg = baseOf ch + 2 ∨ reg = baseOf ch + 3) :
    ∃ k < 4, (baseOf ch).toNat + k = reg.toNat := by
  have hbase := baseOf_toNat ch
  obtain rfl | rfl := h
  · exact ⟨2, by decide, by rw [offLow_toNat]; omega⟩
  · exact ⟨3, by decide, by rw [offHigh_toNat]; omega⟩

/-- Settles O35: the blocks of two channels of one chip do not meet, so the pulse sends nothing to the off bytes of
another channel. -/
theorem channelsAreIndependent : Obligations.ChannelsAreIndependent := by
  unfold Obligations.ChannelsAreIndependent
  refine fun ch us s t h => ⟨sentTicks_exec_setpulse h, fun ch' hne => sentTicks_congr fun reg hreg' => ?_⟩
  refine sentByte_exec_setpulse_of_not_offByte h fun ⟨hchip, hreg⟩ => hne ?_
  obtain ⟨k, hk, hblock⟩ := exists_offset_of_offByte hreg
  obtain ⟨k', hk', hblock'⟩ := exists_offset_of_offByte hreg'
  exact eq_of_blocks_meet hchip hk' hk (hblock'.trans hblock.symm)

end Sys2Proof.Proofs.SetPulse
end

section
/-! PROOFS. The outcome of a command: it completes, or it is a SETPULSE whose owning chip is not Awake
(60_exceptions.md R95, R100). -/

namespace Sys2Proof.Proofs.Exceptions

open Sys2Proof.Machine Sys2Proof.Proofs.Initialize Sys2Proof.Proofs.Converter Sys2Proof.Proofs.GatingMachine
  Sys2Proof.Proofs.PulseOutput Sys2Proof.Proofs.SetPulse

/-- The one way a command stops: SETPULSE with the owning chip not Awake (R92). -/
def UsesBeforeInit (i : Instr) (s : State) (f : Fault) : Prop :=
  ∃ ch us, i = .setpulse ch us ∧ f = .useBeforeInit (chipOf ch) ∧ s.phase (chipOf ch) ≠ .awake

theorem exec_next_or_fault (i : Instr) (s : State) :
    (∃ t, exec i s = .next t) ∨ ∃ f, exec i s = .fault f ∧ UsesBeforeInit i s f := by
  cases i with
  | lookup ch => exact Or.inl ⟨_, rfl⟩
  | conv us => exact Or.inl ⟨_, exec_conv us s⟩
  | init => exact Or.inl ⟨_, exec_init s⟩
  | enable => exact Or.inl ⟨_, exec_of_drives (Or.inl ⟨rfl, rfl⟩) s⟩
  | disable => exact Or.inl ⟨_, exec_of_drives (Or.inr ⟨rfl, rfl⟩) s⟩
  | setpulse ch us =>
    by_cases hawake : s.phase (chipOf ch) = .awake
    · exact Or.inl ⟨_, exec_setpulse_of_awake hawake us⟩
    · exact Or.inr ⟨_, exec_setpulse_of_not_awake hawake us, ch, us, rfl, rfl, hawake⟩

theorem exec_ne_refused (i : Instr) (s : State) (r : Refusal) : exec i s ≠ .refused r := by
  obtain ⟨t, h⟩ | ⟨f, h, -⟩ := exec_next_or_fault i s
  · exact fun hr => nomatch h.symm.trans hr
  · exact fun hr => nomatch h.symm.trans hr

theorem usesBeforeInit_of_exec {i : Instr} {s : State} {f : Fault} (hf : exec i s = .fault f) :
    UsesBeforeInit i s f := by
  obtain ⟨t, h⟩ | ⟨f', h, huse⟩ := exec_next_or_fault i s
  · exact nomatch h.symm.trans hf
  · obtain rfl := Host.Outcome.fault.inj (h.symm.trans hf)
    exact huse

/-- Settles O11: every command completes but a SETPULSE whose owning chip is not Awake, which faults with that chip. -/
theorem onlySetpulseFaults : Obligations.OnlySetpulseFaults := by
  unfold Obligations.OnlySetpulseFaults
  exact fun i s => ⟨exec_ne_refused i s, fun _ => usesBeforeInit_of_exec⟩

end Sys2Proof.Proofs.Exceptions
end

section
/-! PROOFS. The order of the block's transactions in the trace: the prescale registers are written asleep
(70_reset_and_hazards.md R119), and a later command comes after the wait (R120). -/

namespace Sys2Proof.Proofs.TraceOrder

open Sys2Proof.Machine Sys2Proof.Laws Sys2Proof.Safety Sys2Proof.Proofs.Rules Sys2Proof.Proofs.Shadow
  Sys2Proof.Proofs.Transactions Sys2Proof.Proofs.Responses Sys2Proof.Proofs.Initialize

/-! ### A rule for each event of a trace by the events before it -/

/-- Every event of the trace meets the rule, given the events before it. -/
def AtEvery (P : List Event → Event → Prop) (t : List Event) : Prop :=
  ∀ pre e post, t = pre ++ e :: post → P pre e

section
variable {P : List Event → Event → Prop} {t : List Event}

@[simp] theorem atEvery_nil : AtEvery P [] := by
  intro pre e post heq
  simp at heq

theorem atEvery_concat {e : Event} : AtEvery P (t ++ [e]) ↔ AtEvery P t ∧ P t e := by
  constructor
  · intro h
    exact ⟨fun pre x post heq => h pre x (post ++ [e]) (by simp [heq]), h t e [] rfl⟩
  · rintro ⟨h, he⟩ pre x post heq
    obtain rfl | ⟨post', y, rfl⟩ := List.eq_nil_or_concat post
    · obtain ⟨rfl, hx⟩ := List.append_inj' heq rfl
      obtain rfl := List.singleton_inj.mp hx
      exact he
    · have hsplit : t ++ [e] = (pre ++ x :: post') ++ [y] := by simp [heq]
      obtain ⟨rfl, -⟩ := List.append_inj' hsplit rfl
      exact h pre x post' rfl

/-- Events that meet the rule after whatever others may be added. -/
theorem atEvery_append {es : List Event} (h : AtEvery P t) (hes : ∀ e ∈ es, ∀ pre, P pre e) :
    AtEvery P (t ++ es) := by
  induction es generalizing t with
  | nil => simpa using h
  | cons e es ih =>
    obtain ⟨he, hrest⟩ := List.forall_mem_cons.mp hes
    rw [List.append_cons]
    exact ih (atEvery_concat.mpr ⟨h, he t⟩) hrest

end

/-! ### The prescale register is written asleep (R71, R119) -/

/-- A write to a prescale register is 121 and finds its chip sent to sleep. -/
def PrescaledAsleep (sleepByte : Byte) (pre : List Event) (e : Event) : Prop :=
  ∀ a data, e = Event.busWrite a (0xFE :: data) → data = [0x79] ∧ lastMode a pre = some sleepByte

theorem prescaleOnlyAsleep_iff {sleepByte : Byte} {t : List Event} :
    PrescaleOnlyAsleep sleepByte t ↔ AtEvery (PrescaledAsleep sleepByte) t := by
  constructor
  · rintro h pre e post heq a data rfl
    exact h pre post a data heq
  · exact fun h pre post a data heq => h pre _ post heq a data rfl

theorem prescaledAsleep_of_not_busWrite {sleepByte : Byte} {e : Event} (he : isBusWrite e = false)
    (pre : List Event) : PrescaledAsleep sleepByte pre e := by
  rintro a data rfl
  exact nomatch he

theorem prescaledAsleep_of_ne {sleepByte reg : Byte} (hreg : reg ≠ 0xFE) (a : BusAddr) (data : List Byte)
    (pre : List Event) : PrescaledAsleep sleepByte pre (.busWrite a (reg :: data)) := by
  rintro a' data' ⟨rfl, rfl, rfl⟩
  exact absurd rfl hreg

theorem prescaledAsleep_of_lastMode {sleepByte : Byte} {a : BusAddr} {pre : List Event}
    (h : lastMode a pre = some sleepByte) : PrescaledAsleep sleepByte pre (.busWrite a [0xFE, 0x79]) := by
  rintro a' data' ⟨rfl, rfl, rfl⟩
  exact ⟨rfl, h⟩

theorem lastMode_concat (a : BusAddr) (t : List Event) (e : Event) :
    lastMode a (t ++ [e]) = modeNext a (lastMode a t) e := by
  simp [lastMode]

/-- A write to the prescale register leaves the mode register alone. -/
theorem lastMode_concat_prescale (a a' : BusAddr) (t : List Event) (v : Byte) :
    lastMode a (t ++ [.busWrite a' [0xFE, v]]) = lastMode a t := by
  rw [lastMode_concat]
  exact if_neg fun ⟨_, hreg⟩ => absurd hreg (by decide)

/-- After one byte to both mode registers it is the last at either address, also when the two are equal (R70). -/
theorem lastMode_modeWrites (s : State) (c : Chip) (t : List Event) (v : Byte) :
    lastMode (s.busAddr c) (t ++ [.busWrite s.addrA [0x00, v]] ++ [.busWrite s.addrB [0x00, v]]) = some v := by
  rw [lastMode_concat, lastMode_concat]
  cases c <;> simp [modeNext]

/-- The trace after INIT, one transaction after the other (R68 to R73). -/
theorem append_initEvents_eq (t : List Event) (s : State) :
    t ++ initEvents s =
      t ++ (.busOpen :: muteEvents s) ++
        [.busWrite s.addrA [0x00, s.params.modeSleepAllcall]] ++
        [.busWrite s.addrB [0x00, s.params.modeSleepAllcall]] ++
        [.busWrite s.addrA [0xFE, 0x79]] ++ [.busWrite s.addrB [0xFE, 0x79]] ++
        [.busWrite s.addrA [0x00, s.params.modeAiAllcall]] ++ [.busWrite s.addrB [0x00, s.params.modeAiAllcall]] ++
        [.delay s.params.tStab] := by
  simp [initEvents]

theorem afterInit_trace (s : State) : (afterInit s).trace = s.trace ++ initEvents s := by rw [afterInit_eq]

theorem afterInit_params (s : State) : (afterInit s).params = s.params := by rw [afterInit_eq]

/-- PrescaleInv goes on where the event added meets the rule. -/
theorem prescaleInv_concat {s t : State} {e : Event} (h : PrescaleInv s)
    (he : PrescaledAsleep s.params.modeSleepAllcall s.trace e) (htrace : t.trace = s.trace ++ [e])
    (hparams : t.params = s.params) : PrescaleInv t := by
  rw [PrescaleInv, prescaleOnlyAsleep_iff, htrace, hparams]
  exact atEvery_concat.mpr ⟨prescaleOnlyAsleep_iff.mp h, he⟩

/-- INIT sends both chips to sleep right before it writes their prescale registers (R70, R71). -/
theorem prescaleInv_afterInit (s : State) (h : PrescaleInv s) : PrescaleInv (afterInit s) := by
  have hother {e : Event} (he : isBusWrite e = false) (pre : List Event) :
      PrescaledAsleep s.params.modeSleepAllcall pre e := prescaledAsleep_of_not_busWrite he pre
  have hmode {a : BusAddr} {v : Byte} {pre : List Event} :
      PrescaledAsleep s.params.modeSleepAllcall pre (.busWrite a [0x00, v]) :=
    prescaledAsleep_of_ne (by decide) a [v] pre
  have hopening : ∀ e ∈ Event.busOpen :: muteEvents s, ∀ pre, PrescaledAsleep s.params.modeSleepAllcall pre e :=
    List.forall_mem_cons.mpr ⟨hother rfl, fun e he => hother (muteEvents_not_busWrite s e he)⟩
  have hasleep (c : Chip) := lastMode_modeWrites s c (s.trace ++ (.busOpen :: muteEvents s)) s.params.modeSleepAllcall
  rw [PrescaleInv, prescaleOnlyAsleep_iff, afterInit_trace, afterInit_params, append_initEvents_eq]
  simp only [atEvery_concat, and_assoc]
  exact ⟨atEvery_append (prescaleOnlyAsleep_iff.mp h) hopening, hmode, hmode,
    prescaledAsleep_of_lastMode (hasleep .a),
    prescaledAsleep_of_lastMode ((lastMode_concat_prescale ..).trans (hasleep .b)), hmode, hmode, hother rfl _⟩

theorem prescaleInv_emit (s : State) {e : Event} (he : isBusWrite e = false) (h : PrescaleInv s) :
    PrescaleInv (s.emit e) :=
  prescaleInv_concat h (prescaledAsleep_of_not_busWrite he _) rfl rfl

/-- The two pin writes of ENABLE and DISABLE are no transaction (R78). -/
theorem prescaleInv_drivePins (s : State) (l : Level) (h : PrescaleInv s) : PrescaleInv (s.drivePins l) :=
  prescaleInv_emit (s.drivePin .g0 l) (e := .pinWrite .g1 l) rfl (prescaleInv_emit s (e := .pinWrite .g0 l) rfl h)

/-- No off byte of a channel is the prescale register (R31). -/
theorem prescaleInv_writeOffTicks (s : State) (ch : Channel) (t : Ticks) (h : PrescaleInv s) :
    PrescaleInv (writeOffTicks s ch t) := by
  obtain ⟨hprescale, -⟩ := initReg_ne_offBytes ch (Or.inr rfl)
  exact prescaleInv_concat h (prescaledAsleep_of_ne hprescale.symm _ _ _) (memWrite_trace ..) (memWrite_params ..)

theorem prescaleInv_kept : KeptByCommands PrescaleInv where
  port _ _ h := h
  mark _ h := h
  respond s _ _ h := prescaleInv_emit s rfl h
  init := prescaleInv_afterInit
  drive s l _ h := prescaleInv_drivePins s l h
  pulse s ch t _ h := prescaleInv_writeOffTicks s ch t h

/-- Settles O47: INIT alone writes the prescale registers, each after both mode registers were sent the sleep byte. -/
theorem stepKeepsPrescaleOnlyAsleep : Obligations.StepKeepsPrescaleOnlyAsleep := by
  unfold Obligations.StepKeepsPrescaleOnlyAsleep
  exact fun _ _ h hstep => prescaleInv_kept.step h hstep

/-! ### The wait before a later access (R34, R73, R120) -/

/-- Some transaction of the trace. -/
def HasBusWrite (t : List Event) : Prop := ∃ a bytes, Event.busWrite a bytes ∈ t

/-- A response finds the transactions before it settled. -/
def SettledAtResponse (pre : List Event) (e : Event) : Prop :=
  ∀ st d, e = Event.resp st d → HasBusWrite pre → Settled pre

theorem settledInv_iff {s : State} :
    SettledInv s ↔ AtEvery SettledAtResponse s.trace ∧
      (HasBusWrite s.trace ∨ s.phaseA = .awake ∨ s.phaseB = .awake → Settled s.trace) := by
  refine and_congr_left fun _ => ⟨?_, ?_⟩
  · rintro h pre e post heq st d rfl
    exact h pre st d post heq
  · exact fun h pre st d post heq => h pre _ post heq st d rfl

theorem settledAtResponse_of_not_response {e : Event} (he : isResponse e = false) (pre : List Event) :
    SettledAtResponse pre e := by
  rintro st d rfl
  exact nomatch he

/-- Pulses, and events that are no transaction, may follow the wait. -/
theorem settled_append {t es : List Event} (h : Settled t)
    (hes : ∀ a bytes, Event.busWrite a bytes ∈ es → bytes.length = 3) : Settled (t ++ es) := by
  obtain ⟨before, d, after, rfl, hlong, hafter⟩ := h
  refine ⟨before, d, after ++ es, by simp, hlong, fun a bytes hmem => ?_⟩
  exact (List.mem_append.mp hmem).elim (hafter a bytes) (hes a bytes)

/-- A trace that ends in the wait is settled (R73). -/
theorem settled_concat_delay (t : List Event) {d : Nat} (hlong : 100000 ≤ d) : Settled (t ++ [.delay d]) :=
  ⟨t, d, [], rfl, hlong, nofun⟩

/-- SettledInv goes on where the event added is no transaction, be it a response. -/
theorem settledInv_emit (s : State) {e : Event} (he : isBusWrite e = false) (h : SettledInv s) :
    SettledInv (s.emit e) := by
  obtain ⟨hresponses, hnow⟩ := settledInv_iff.mp h
  have hno {a : BusAddr} {bytes : List Byte} : Event.busWrite a bytes ∉ [e] := by
    rw [List.mem_singleton]
    rintro rfl
    exact nomatch he
  rw [settledInv_iff, emit_trace, emit_phaseA, emit_phaseB]
  refine ⟨atEvery_concat.mpr ⟨hresponses, fun _ _ _ hbus => hnow (Or.inl hbus)⟩, fun hused => ?_⟩
  refine settled_append (hnow (hused.imp_left ?_)) fun _ _ hmem => absurd hmem hno
  exact fun ⟨a, bytes, hmem⟩ => ⟨a, bytes, (List.mem_append.mp hmem).resolve_right hno⟩

/-- INIT ends in the wait (R73). -/
theorem settledInv_afterInit (s : State) (h : SettledInv s) : SettledInv (afterInit s) := by
  obtain ⟨hresponses, -⟩ := settledInv_iff.mp h
  rw [settledInv_iff, afterInit_trace]
  refine ⟨atEvery_append hresponses fun e he => settledAtResponse_of_not_response (initEvents_not_response s e he),
    fun _ => ?_⟩
  rw [append_initEvents_eq]
  exact settled_concat_delay _ (tStab_ge s.params)

theorem settledInv_drivePins (s : State) (l : Level) (h : SettledInv s) : SettledInv (s.drivePins l) :=
  settledInv_emit (s.drivePin .g0 l) (e := .pinWrite .g1 l) rfl (settledInv_emit s (e := .pinWrite .g0 l) rfl h)

/-- A pulse goes to an Awake chip, so the wait has passed; and it has three bytes (R87). -/
theorem settledInv_writeOffTicks (s : State) (ch : Channel) (t : Ticks) (hawake : s.phase (chipOf ch) = .awake)
    (h : SettledInv s) : SettledInv (writeOffTicks s ch t) := by
  obtain ⟨hresponses, hnow⟩ := settledInv_iff.mp h
  have hsettled : Settled s.trace := by
    refine hnow (Or.inr ?_)
    revert hawake
    cases chipOf ch with
    | a => exact Or.inl
    | b => exact Or.inr
  rw [settledInv_iff, writeOffTicks_eq_memWrite, memWrite_trace]
  exact ⟨atEvery_concat.mpr ⟨hresponses, settledAtResponse_of_not_response rfl _⟩,
    fun _ => settled_append hsettled (by simp)⟩

theorem settledInv_kept : KeptByCommands SettledInv where
  port _ _ h := h
  mark _ h := h
  respond s _ _ h := settledInv_emit s rfl h
  init := settledInv_afterInit
  drive s l _ h := settledInv_drivePins s l h
  pulse := settledInv_writeOffTicks

/-- Settles O48: INIT's own register writes come before its wait, and what follows that wait is pulses. -/
theorem stepKeepsTheWaitBeforeLaterAccess : Obligations.StepKeepsTheWaitBeforeLaterAccess := by
  unfold Obligations.StepKeepsTheWaitBeforeLaterAccess
  exact fun _ _ h hstep => settledInv_kept.step h hstep

end Sys2Proof.Proofs.TraceOrder
end

section
/-! PROOFS. What the chips received, compared with what they were sent (70_reset_and_hazards.md R126). -/

namespace Sys2Proof.Proofs.Deliveries

open Sys2Proof.Machine Sys2Proof.Laws Sys2Proof.Safety Sys2Proof.Proofs.Rules Sys2Proof.Proofs.Shadow
  Sys2Proof.Proofs.Responses Sys2Proof.Proofs.PulseOutput

/-! ### Everything delivered -/

/-- With every transaction delivered, what arrives is the fold of the trace. -/
theorem receivedFrom_of_delivered {d : Delivery} {n : Nat} {t : List Event} (hd : everyDeliveredFrom d n t = true)
    (a : BusAddr) (m : Memory) : receivedFrom d a n m t = t.foldl (receive a) m := by
  induction t generalizing n m with
  | nil => rfl
  | cons e rest ih =>
    obtain ⟨he, hrest⟩ := Bool.and_eq_true_iff.mp hd
    have harrives : (if d n then receive a m e else m) = receive a m e := by
      split
      · rfl
      · next hlost => exact (receive_of_not_busWrite a m e (by simpa [hlost] using he)).symm
    rw [receivedFrom, harrives, List.foldl_cons, ih hrest]

theorem received_of_everyDelivered {d : Delivery} {s : State} (hd : everyDelivered d s.trace = true) (c : Chip) :
    received d s c = sentTo (s.busAddr c) s.trace :=
  receivedFrom_of_delivered hd _ _

theorem chipRegs_of_traceFoldInv {s : State} (h : TraceFoldInv s) (haddr : s.addrA ≠ s.addrB) (c : Chip) :
    s.chipRegs c = sentTo (s.busAddr c) s.trace := by
  obtain ⟨hchipA, hchipB⟩ := h haddr
  cases c with
  | a => exact hchipA
  | b => exact hchipB

/-- Settles O57: both the shadow and what was received are the fold of the trace at the chip's bus address. -/
theorem deliveredTransactionsMakeTheShadowTrue : Obligations.DeliveredTransactionsMakeTheShadowTrue := by
  unfold Obligations.DeliveredTransactionsMakeTheShadowTrue
  intro d s h haddr hd c reg
  rw [receivedByte, sentByte, received_of_everyDelivered hd, chipRegs_of_traceFoldInv h haddr]

/-! ### A pulse delivered, and a pulse lost -/

/-- The registers of a chip after the two bytes of a pulse (R87, R89). -/
theorem read_writeBytes_offBytes (m : Memory) (ch : Channel) (lo hi reg : Byte) :
    Memory.read (Memory.writeBytes m (baseOf ch + 2) [lo, hi]) reg.toNat =
      if reg = baseOf ch + 3 then some hi else if reg = baseOf ch + 2 then some lo else Memory.read m reg.toNat := by
  have hnext : baseOf ch + 2 + 1 = baseOf ch + 3 := by bv_omega
  rw [writeBytes_cons, writeBytes_cons, writeBytes_nil, hnext, read_write, read_write]

/-- A transaction that is lost, with the answer after it, reaches no chip (R126). -/
theorem receivedFrom_append_lost {d : Delivery} {t : List Event} (hlost : d t.length = false) (a : BusAddr) (e : Event)
    (st : Status) (v : BitVec 12) : receivedFrom d a 0 [] (t ++ [e, .resp st v]) = receivedFrom d a 0 [] t := by
  rw [receivedFrom_append]
  simp [receivedFrom, hlost, receive]

section
variable {ch : Channel} {us : Micros} {s t : State} (h : exec (.setpulse ch us) s = .next t) {d : Delivery}
include h

/-- With every transaction delivered the owning chip received the two off bytes, and in no other register
anything. -/
theorem receivedByte_exec_setpulse (hd : everyDelivered d t.trace = true) (reg : Byte) :
    receivedByte d t (chipOf ch) reg =
      if reg = baseOf ch + 3 then some (ticksHigh (microsecondsToTicks us))
      else if reg = baseOf ch + 2 then some (ticksLow (microsecondsToTicks us))
      else receivedByte d s (chipOf ch) reg := by
  have htrace := exec_trace h
  rw [htrace] at hd
  rw [receivedByte, received, busAddr_of_exec h, htrace, emitted, received_pulse hd, read_writeBytes_offBytes,
    receivedByte, received]

theorem receivedByte_exec_setpulse_of_lost (hlost : d s.trace.length = false) (c : Chip) (reg : Byte) :
    receivedByte d t c reg = receivedByte d s c reg := by
  rw [receivedByte, received, busAddr_of_exec h, exec_trace h, emitted, receivedFrom_append_lost hlost, receivedByte,
    received]

end

/-- Settles O58: the answer follows the one transaction, which is received whole or not at all. -/
theorem lostTransactionsAreSilent : Obligations.LostTransactionsAreSilent := by
  unfold Obligations.LostTransactionsAreSilent
  intro ch us s t h
  rw [← ticksLow_eq_ofNat, ← ticksHigh_eq_ofNat]
  refine ⟨phase_execSetpulse h, ⟨_, exec_trace h⟩, fun d => ⟨fun hd => ⟨?_, ?_⟩, fun hlost => ?_⟩⟩
  · rw [receivedByte_exec_setpulse h hd, if_neg (offHigh_ne_offLow ch ch).symm, if_pos rfl]
  · rw [receivedByte_exec_setpulse h hd, if_pos rfl]
  · exact receivedByte_exec_setpulse_of_lost h hlost

end Sys2Proof.Proofs.Deliveries
end

section
/-! PROOFS. The state after `RESET a, b, g` (70_reset_and_hazards.md R113 to R115): nothing was put out, and every
invariant holds. -/

namespace Sys2Proof.Proofs.Reset

open Sys2Proof.Machine Sys2Proof.Laws Sys2Proof.Safety Sys2Proof.Proofs.GatingMachine
  Sys2Proof.Proofs.Transactions Sys2Proof.Proofs.TraceOrder

section
variable (a b : BusAddr) (g : Bool) (p : OpenParams)

theorem sentByte_resetWith (c : Chip) (reg : Byte) : sentByte (State.resetWith a b g p) c reg = none := by
  cases c <;> rfl

theorem phase_resetWith (c : Chip) : (State.resetWith a b g p).phase c = .uninit := by
  cases c <;> rfl

theorem outputEnableState_resetWith : outputEnableState (State.resetWith a b g p) = none :=
  outputEnableState_of_undirected rfl

theorem blockInv_resetWith : BlockInv (State.resetWith a b g p) where
  absent _ := ⟨rfl, rfl, rfl⟩
  oneLevel := rfl
  onePhase := ⟨rfl, Or.inl rfl⟩
  driven hdir := nomatch hdir

/-- No chip is Awake and no register has a byte, so only the first clause says anything. -/
theorem shadowInv_resetWith : ShadowInv (State.resetWith a b g p) where
  uninit c _ := sentByte_resetWith a b g p c
  awake c hawake := nomatch (phase_resetWith a b g p c).symm.trans hawake
  named c reg hsent := absurd (sentByte_resetWith a b g p c reg) hsent
  highNibble ch _ hsent := nomatch (sentByte_resetWith a b g p (chipOf ch) (baseOf ch + 3)).symm.trans hsent

theorem prescaleInv_resetWith : PrescaleInv (State.resetWith a b g p) :=
  prescaleOnlyAsleep_iff.mpr atEvery_nil

theorem settledInv_resetWith : SettledInv (State.resetWith a b g p) := by
  refine settledInv_iff.mpr ⟨atEvery_nil, ?_⟩
  rintro (⟨_, _, hmem⟩ | hawake | hawake)
  · exact nomatch hmem
  · exact nomatch hawake
  · exact nomatch hawake

theorem openedInv_resetWith : OpenedInv (State.resetWith a b g p) := by
  refine ⟨openedFirst_of_not_busWrite nofun, ?_⟩
  rintro (hphase | hphase)
  · exact absurd rfl hphase
  · exact absurd rfl hphase

end

/-- Settles O50: the fields as reset stores them, and no register, pad or output with a value. -/
theorem resetPerformsNoIO : Obligations.ResetPerformsNoIO := by
  unfold Obligations.ResetPerformsNoIO
  rintro a b g p s rfl
  exact ⟨rfl, rfl, rfl, rfl, rfl, rfl, rfl, rfl, rfl, sentByte_resetWith a b g p, outputEnableState_resetWith a b g p,
    fun _ => rfl, rfl, rfl, rfl⟩

/-- Settles O51: each invariant of the empty trace, the empty shadow and the undriven pads. -/
theorem resetMeetsTheInvariants : Obligations.ResetMeetsTheInvariants := by
  unfold Obligations.ResetMeetsTheInvariants
  exact fun a b g p => ⟨blockInv_resetWith a b g p, ⟨rfl, rfl⟩, shadowInv_resetWith a b g p,
    fun _ => ⟨rfl, rfl⟩, fun _ => rfl, prescaleInv_resetWith a b g p, settledInv_resetWith a b g p, openedInv_resetWith a b g p⟩

end Sys2Proof.Proofs.Reset
end

section
/-! PROOFS. The refusal mark (92_eei_decisions.md D4): a reserved word sets it, and no command writes it. -/

namespace Sys2Proof.Proofs.RefusalMark

open Sys2Proof.Machine Sys2Proof.Laws Sys2Proof.Proofs.Rules Sys2Proof.Proofs.SetPulse

theorem gateCommand_refusalMark (l : Level) (s : State) : (gateCommand l s).refusalMark = s.refusalMark := by
  rw [gateCommand_eq]
  split <;> rfl

theorem execInit_refusalMark {s t : State} (h : execInit s = .next t) : t.refusalMark = s.refusalMark := by
  obtain rfl := Host.Outcome.next.inj ((execInit_eq s).symm.trans h)
  rw [respond_refusalMark, afterInit_eq]

/-- No command writes the mark. -/
theorem exec_refusalMark {i : Instr} {s t : State} (h : exec i s = .next t) : t.refusalMark = s.refusalMark := by
  obtain (⟨ch, -, rfl⟩ | ⟨us, -, rfl⟩) | ⟨-, hinit⟩ | (⟨-, rfl⟩ | ⟨-, rfl⟩) | ⟨ch, us, rfl, -, -⟩ := exec_next i s t h
  · exact respond_refusalMark ..
  · exact respond_refusalMark ..
  · exact execInit_refusalMark hinit
  · exact gateCommand_refusalMark .low s
  · exact gateCommand_refusalMark .high s
  · exact exec_setpulse_refusalMark h

/-- The word a step would take is a reserved one (R44). -/
def PresentsReserved (s : State) : Prop := ∃ w rest r, s.port = w :: rest ∧ decode w = .invalid r

theorem not_presentsReserved_of_idle {s : State} (hport : s.port = []) : ¬ PresentsReserved s := by
  rintro ⟨w, rest, r, hreserved, -⟩
  exact nomatch hport.symm.trans hreserved

theorem not_presentsReserved_of_command {s : State} {w : CmdWord} {rest : List CmdWord} {i : Instr}
    (hport : s.port = w :: rest) (hdecode : decode w = .ok i) : ¬ PresentsReserved s := by
  rintro ⟨w', rest', r, hreserved, hinvalid⟩
  obtain ⟨rfl, -⟩ := List.cons.inj (hport.symm.trans hreserved)
  exact nomatch hdecode.symm.trans hinvalid

/-- Settles O10: an idle step and a command leave the mark as it was and take no reserved word; a reserved word sets
it. -/
theorem refusalMarkIsKept : Obligations.RefusalMarkIsKept := by
  unfold Obligations.RefusalMarkIsKept
  intro s t h
  obtain ⟨hport, rfl⟩ | ⟨w, rest, i, hport, hdecode, hi⟩ | ⟨w, rest, r, hport, hdecode, rfl⟩ := step_next s t h
  · exact (or_iff_left (not_presentsReserved_of_idle hport)).symm
  · rw [exec_refusalMark hi]
    exact (or_iff_left (not_presentsReserved_of_command hport hdecode)).symm
  · exact iff_of_true (answerIllegal_refusalMark _) (Or.inr ⟨w, rest, r, hport, hdecode⟩)

end Sys2Proof.Proofs.RefusalMark
end

section
/-! PROOFS. The sample words of 95_test_vectors.md V-DECODE. -/

namespace Sys2Proof.Proofs.SampleWords

open Sys2Proof.Proofs.Encoding

/-- The word of a command decodes to it (R43, R45). -/
theorem decode_of_encode_eq {w : CmdWord} {i : Instr} (h : encode i = w) : decode w = .ok i :=
  h ▸ decodeOfEncodeIsTheCommand i

/-- Settles O5: the six command words are the encodings of their commands; the five reserved ones fail the test of
`OP` or of an unused field. -/
theorem sampleWordsDecode : Obligations.SampleWordsDecode := by
  unfold Obligations.SampleWordsDecode
  exact ⟨decode_of_encode_eq (by decide), decode_of_encode_eq (by decide), decode_of_encode_eq (by decide),
    decode_of_encode_eq (by decide), decode_of_encode_eq (by decide), decode_of_encode_eq (by decide),
    by decide, by decide, by decide, by decide, by decide⟩

end Sys2Proof.Proofs.SampleWords
end
